-- ==== Sys2Proof/Word.lean ====
section
/-! DEFINITION. The widths of the values the spec names. Every value is unsigned (43_laws.md R110). -/

namespace Sys2Proof

/-- A byte of a frame, a register of the attached chip, an operand field of the command word. -/
abbrev Byte := BitVec 8

/-- The command word and the response word (30_encoding.md R61, R62). -/
abbrev Word := BitVec 32

/-- The `value` field of a response (30_encoding.md R62). -/
abbrev Value := BitVec 24

/-- The error token of a primitive. Its meaning is the primitive's; DEDUCED (log 20): R62 delivers it unchanged in the
24-bit `value` field, so 24 bits hold it. -/
abbrev ErrToken := BitVec 24

/-- Three bytes: the buffer `buf[0..2]` (10_state.md R12), or the bytes the bus carries back (00_scope.md R3). -/
structure Trio where
  b0 : Byte
  b1 : Byte
  b2 : Byte
deriving DecidableEq, Repr

end Sys2Proof
end

