-- ==== Sys2Proof/Syntax.lean ====
section
/-! DEFINITION. The operations of 30_encoding.md R61, one constructor for each row of spec/opcode_table.json, with
their operands in the order of that table. -/

namespace Sys2Proof

/-- An operation the host issues, with its operands. A mode operand is its 2-bit code (30_encoding.md R60), code 3
included: the operation answers it (R63). -/
inductive Instr where
  /-- `compute_crc5` (40_crc5.md R70) -/
  | crc5 (h m l : Byte)
  /-- `encode` (41_frame.md R80); `rw` is true for write (30_encoding.md R51) -/
  | fenc (rw : Bool) (addr value : Byte)
  /-- `decode` (41_frame.md R81) -/
  | fdec (b0 b1 b2 : Byte)
  /-- `read` (41_frame.md R82) -/
  | frd (addr : Byte)
  /-- `write` (41_frame.md R83) -/
  | fwr (addr value : Byte)
  /-- `update` (41_frame.md R84) -/
  | fupd (addr mask value : Byte)
  /-- the check half of the codec (40_crc5.md R75) -/
  | crcchk (h m l : Byte)
  /-- `ensure_mode` (42_modepin.md R100) -/
  | msel (mode : BitVec 2)
  /-- `read_register` (42_modepin.md R101) -/
  | mrd (addr : Byte)
  /-- `write_register` (42_modepin.md R102) -/
  | mwr (addr value : Byte)
  /-- raw data-channel read (42_modepin.md R103) -/
  | mch (mode : BitVec 2)
deriving DecidableEq, Repr

end Sys2Proof
end

