-- ==== Sys2Proof/Decode.lean ====
section
/-! DEFINITION. The command word of 30_encoding.md R61: its fields, the decoder (total, reserved codes rejected by
name, R63), the encoder, and the host's `decodeTableWord`. -/

namespace Sys2Proof

/-- Why a command word names no operation. -/
inductive DecodeError where
  /-- `op` is 0x0 or 0xC to 0xF (30_encoding.md R63). Raised by `decode`; safe: the block answers ConfigFault. -/
  | reservedOp (op : BitVec 4)
deriving DecidableEq, Repr

/-- `op`, bits 31:28. -/
def opField (w : Word) : BitVec 4 := w.extractLsb' 28 4

/-- `mode`, bits 27:26. -/
def modeField (w : Word) : BitVec 2 := w.extractLsb' 26 2

/-- `rw`, bit 24. -/
def rwField (w : Word) : Bool := w.getLsbD 24

/-- `A`, bits 23:16. -/
def fieldA (w : Word) : Byte := w.extractLsb' 16 8

/-- `B`, bits 15:8. -/
def fieldB (w : Word) : Byte := w.extractLsb' 8 8

/-- `C`, bits 7:0. -/
def fieldC (w : Word) : Byte := w.extractLsb' 0 8

/-- The operation a command word selects, on `op` alone; unused fields are ignored (30_encoding.md R61). -/
def decode (w : Word) : Except DecodeError Instr :=
  match opField w with
  | 0x1#4 => .ok (.crc5 (fieldA w) (fieldB w) (fieldC w))
  | 0x2#4 => .ok (.fenc (rwField w) (fieldA w) (fieldC w))
  | 0x3#4 => .ok (.fdec (fieldA w) (fieldB w) (fieldC w))
  | 0x4#4 => .ok (.frd (fieldA w))
  | 0x5#4 => .ok (.fwr (fieldA w) (fieldC w))
  | 0x6#4 => .ok (.fupd (fieldA w) (fieldB w) (fieldC w))
  | 0x7#4 => .ok (.crcchk (fieldA w) (fieldB w) (fieldC w))
  | 0x8#4 => .ok (.msel (modeField w))
  | 0x9#4 => .ok (.mrd (fieldA w))
  | 0xA#4 => .ok (.mwr (fieldA w) (fieldC w))
  | 0xB#4 => .ok (.mch (modeField w))
  | op => .error (.reservedOp op)

/-- A command word from its fields: `op << 28 | mode << 26 | rw << 24 | A << 16 | B << 8 | C` (30_encoding.md R64). -/
def commandWord (op : BitVec 4) (mode : BitVec 2) (rw : Bool) (a b c : Byte) : Word :=
  (op.setWidth 32 <<< 28) ||| (mode.setWidth 32 <<< 26) ||| ((BitVec.ofBool rw).setWidth 32 <<< 24) |||
    (a.setWidth 32 <<< 16) ||| (b.setWidth 32 <<< 8) ||| c.setWidth 32

/-- The operation code of each operation (30_encoding.md R61). -/
def Instr.opcode : Instr → BitVec 4
  | .crc5 _ _ _ => 0x1#4
  | .fenc _ _ _ => 0x2#4
  | .fdec _ _ _ => 0x3#4
  | .frd _ => 0x4#4
  | .fwr _ _ => 0x5#4
  | .fupd _ _ _ => 0x6#4
  | .crcchk _ _ _ => 0x7#4
  | .msel _ => 0x8#4
  | .mrd _ => 0x9#4
  | .mwr _ _ => 0xA#4
  | .mch _ => 0xB#4

/-- The command word of an operation, unused fields 0 (30_encoding.md R64). -/
def encode (i : Instr) : Word :=
  match i with
  | .crc5 h m l => commandWord i.opcode 0 false h m l
  | .fenc rw addr value => commandWord i.opcode 0 rw addr 0 value
  | .fdec b0 b1 b2 => commandWord i.opcode 0 false b0 b1 b2
  | .frd addr => commandWord i.opcode 0 false addr 0 0
  | .fwr addr value => commandWord i.opcode 0 false addr 0 value
  | .fupd addr mask value => commandWord i.opcode 0 false addr mask value
  | .crcchk h m l => commandWord i.opcode 0 false h m l
  | .msel mode => commandWord i.opcode mode false 0 0 0
  | .mrd addr => commandWord i.opcode 0 false addr 0 0
  | .mwr addr value => commandWord i.opcode 0 false addr 0 value
  | .mch mode => commandWord i.opcode mode false 0 0 0

/-- The bits of the command word that an operation reads: `op` and its own operand fields (30_encoding.md R61). -/
def Instr.usedBits : Instr → Word
  | .crc5 _ _ _ => 0xF0FFFFFF
  | .fenc _ _ _ => 0xF1FF00FF
  | .fdec _ _ _ => 0xF0FFFFFF
  | .frd _ => 0xF0FF0000
  | .fwr _ _ => 0xF0FF00FF
  | .fupd _ _ _ => 0xF0FFFFFF
  | .crcchk _ _ _ => 0xF0FFFFFF
  | .msel _ => 0xFC000000
  | .mrd _ => 0xF0FF0000
  | .mwr _ _ => 0xF0FF00FF
  | .mch _ => 0xFC000000

/-- The host's view of `decode`: `w` as a command word, its bits from `nbits` up taken as 0. -/
def decodeTableWord (nbits w : Nat) : Option Instr :=
  match decode (BitVec.ofNat 32 (w % 2 ^ nbits)) with
  | .ok i => some i
  | .error _ => none

end Sys2Proof
end

