-- ==== Sys2Proof/Config.lean ====
section
/-! DEFINITION. What an instance fixes at construction: the parameters of 00_scope.md section 5. -/

namespace Sys2Proof

/-- The modes of 30_encoding.md R60, the decided value of the parameter MODES (log 14). -/
inductive Mode where
  | config
  | position
  | velocity
deriving DecidableEq, Repr

/-- The two mode-select pins (00_scope.md R4). -/
inductive Pin where
  | a0
  | a1
deriving DecidableEq, Repr

/-- The levels of the two pins, `true` for high (10_state.md R15). -/
structure Levels where
  a0 : Bool
  a1 : Bool
deriving DecidableEq, Repr

/-- MODE_PINS: the levels of each mode (30_encoding.md R60). -/
structure ModePins where
  config : Levels
  position : Levels
  velocity : Levels
deriving DecidableEq, Repr

/-- RSP_HIGH: the high byte of the CRC check of a read response (41_frame.md R82, 90_conflicts.md C3). -/
inductive RspHigh where
  | rx0
  | txCtrl
  | zero
deriving DecidableEq, Repr

/-- The parameters of 00_scope.md section 5, with `modePinsPresent` for 60_exceptions.md R124. `crc_en` is the state
register `crcEn` (10_state.md R10). Log 13. -/
structure Params where
  /-- ADDR_LO (20_memory.md R31) -/
  addrLo : Byte
  /-- ADDR_HI (20_memory.md R31) -/
  addrHi : Byte
  /-- CTRL_RW_BIT (30_encoding.md R51), log 16 -/
  ctrlRwBit : Fin 8
  /-- CTRL_ADDR_LSB (30_encoding.md R51), log 16 -/
  ctrlAddrLsb : Fin 3
  /-- RW_WRITE_LEVEL (30_encoding.md R51), log 17 -/
  rwWriteLevel : Bool
  /-- RSP_HIGH (41_frame.md R82), log 18 -/
  rspHigh : RspHigh
  /-- MODE_PINS (30_encoding.md R60), log 15 -/
  modePins : ModePins
  /-- The addresses for which M_ADDR_VALID is false (20_memory.md R32), log 19 -/
  mAddrInvalid : List Byte
  /-- RAW_STRAP (42_modepin.md R103), log 26 -/
  rawStrap : Bool
  /-- T_MODE_SETTLE (42_modepin.md R100, 70_reset_and_hazards.md R150), log 27 -/
  tModeSettle : Nat
  /-- The instance was built with its two mode pins (60_exceptions.md R124), log 23 -/
  modePinsPresent : Bool
deriving DecidableEq, Repr

/-- The defaults and decided values of 00_scope.md section 5 (T_MODE_SETTLE has none: DESIGN CHOICE 0, log 27). -/
def Params.default : Params where
  addrLo := 0
  addrHi := 63
  ctrlRwBit := 7
  ctrlAddrLsb := 0
  rwWriteLevel := true
  rspHigh := .rx0
  modePins := ⟨⟨true, true⟩, ⟨false, false⟩, ⟨false, true⟩⟩
  mAddrInvalid := []
  rawStrap := true
  tModeSettle := 0
  modePinsPresent := true

/-- MODE_PINS gives different modes different levels (30_encoding.md R60). -/
def ModePins.injective (p : ModePins) : Bool :=
  p.config != p.position && p.config != p.velocity && p.position != p.velocity

/-- The direction flag lies outside the six address bits (30_encoding.md R51: two fields of one byte). -/
def Params.fieldsApart (c : Params) : Bool :=
  decide (c.ctrlRwBit.val < c.ctrlAddrLsb.val) || decide (c.ctrlAddrLsb.val + 6 ≤ c.ctrlRwBit.val)

/-- What the spec asks of the parameters: `0 <= ADDR_LO <= ADDR_HI <= 63` (20_memory.md R31), two fields in the control
byte (30_encoding.md R51), MODE_PINS injective (30_encoding.md R60). -/
def Params.wf (c : Params) : Bool :=
  decide (c.addrLo ≤ c.addrHi) && decide (c.addrHi ≤ 63) && c.fieldsApart && c.modePins.injective

/-- The control byte is laid out as 30_encoding.md R51 decides. -/
def Params.decidedLayout (c : Params) : Bool :=
  c.ctrlRwBit == 7 && c.ctrlAddrLsb == 0 && c.rwWriteLevel

end Sys2Proof
end

