-- ==== Sys2Proof/Machine/State.lean ====
section
/-! DEFINITION. The state of one instance of the block (10_state.md), the inputs and outputs at its boundary as plain
data, the reasons a step stops, and the state after reset (10_state.md R20, 70_reset_and_hazards.md R140). -/

namespace Sys2Proof.Machine

open Sys2Proof

/-- The fault classes an operation can end in (60_exceptions.md R120). They are results of operations, delivered to the
host; the block goes on (R128). -/
inductive OpFault where
  /-- IoFault(e): a primitive failed with token `e` (R121) -/
  | io (e : ErrToken)
  /-- IntegrityFault: the CRC did not match (R122) -/
  | integrity
  /-- ConfigFault: an operand or a command the block refuses (R123) -/
  | config
  /-- ResourceFault: raised by the lifecycle manager only (R124); no operation of the block raises it -/
  | resource
deriving DecidableEq, Repr

/-- The result of an operation (30_encoding.md R62). -/
inductive Result where
  | ok (value : Value)
  | fault (f : OpFault)
deriving DecidableEq, Repr

/-- A call of a primitive as the outside sees it (00_scope.md R3 to R5). -/
inductive Call where
  | busXfer (tx : List Byte) (n : Nat) (desel : Bool)
  | pinSet (pin : Pin) (level : Bool)
  | delay (t : Nat)
deriving DecidableEq, Repr

/-- An answer of `BusXfer` (00_scope.md R3). An answer carries three bytes, of which an exchange of length `n` receives
the first `n` (log 3). -/
inductive BusAnswer where
  | ok (rx : Trio)
  | ioError (e : ErrToken)
deriving DecidableEq, Repr

/-- An answer of `PinSet` (00_scope.md R4). -/
inductive PinAnswer where
  | ok
  | pinError (e : ErrToken)
deriving DecidableEq, Repr

/-- What follows the register read (41_frame.md R82) that is running: FRD alone, or the rest of FUPD (R84). -/
inductive ReadUse where
  | frd
  | fupd (mask value : Byte)
deriving DecidableEq, Repr

/-- Which operation the register write (41_frame.md R83) that is running belongs to. -/
inductive WriteUse where
  | fwr
  | fupd
deriving DecidableEq, Repr

/-- What follows the mode selection (42_modepin.md R100) that is running. -/
inductive SelectUse where
  | msel
  | mrd (addr : Byte)
  | mwr (addr value : Byte)
  | mch
deriving DecidableEq, Repr

/-- `seq_step` (10_state.md R16): the step of the running operation's pseudocode the sequencer stands at, with the
operands of the steps still to run. A step other than `first` is one that has issued a primitive call and waits for its
answer (70_reset_and_hazards.md R151, log 5). -/
inductive SeqStep where
  /-- the first step; also the value between operations (log 12) -/
  | first
  /-- FRD step 3, in FRD or in FUPD step 1 -/
  | readXfer (addr : Byte) (use : ReadUse)
  /-- FWR step 3, in FWR or in FUPD step 3 -/
  | writeXfer (use : WriteUse)
  /-- MSEL step 4 -/
  | pinA0 (target : Mode) (use : SelectUse)
  /-- MSEL step 5 -/
  | pinA1 (target : Mode) (use : SelectUse)
  /-- MRD step 3 -/
  | mrdFirst (addr : Byte)
  /-- MRD step 4 -/
  | mrdSecond
  /-- MWR step 3 -/
  | mwrAddr (value : Byte)
  /-- MWR step 4 -/
  | mwrValue
  /-- MCH step 3 -/
  | mchXfer
deriving DecidableEq, Repr

/-- One instance of the block. -/
structure State where
  /-- the parameters, fixed at construction (00_scope.md section 5) -/
  cfg : Params
  /-- `crc_en` (10_state.md R10) -/
  crcEn : Bool
  /-- `buf[0..2]` (10_state.md R12) -/
  buf : Trio
  /-- `crc_c`, the composite (10_state.md R13) -/
  crcC : BitVec 24
  /-- `crc_r`, the running register (10_state.md R13) -/
  crcR : BitVec 6
  /-- `crc_k`, the step counter (10_state.md R13) -/
  crcK : BitVec 5
  /-- `mode_cache`, `none` for NONE (10_state.md R14) -/
  modeCache : Option Mode
  /-- `pin_a0` (10_state.md R15) -/
  pinA0 : Bool
  /-- `pin_a1` (10_state.md R15) -/
  pinA1 : Bool
  /-- `busy` (10_state.md R16) -/
  busy : Bool
  /-- `seq_step` (10_state.md R16) -/
  seqStep : SeqStep
  /-- the instance has been released (70_reset_and_hazards.md R143, log 22) -/
  released : Bool
  /-- input: the command words the host will present, in order (30_encoding.md R61, R64, log 1) -/
  cmds : List Word
  /-- input: the answers `BusXfer` will give, in order (00_scope.md R3, log 3) -/
  busAnswers : List BusAnswer
  /-- input: the answers `PinSet` will give, in order (00_scope.md R4, log 4) -/
  pinAnswers : List PinAnswer
  /-- output: the primitive calls issued, oldest first (41_frame.md R86, 42_modepin.md R106, log 6) -/
  calls : List Call
  /-- output: the results delivered, oldest first (10_state.md R17, log 6) -/
  results : List Result
deriving DecidableEq, Repr

/-- Why the model stops with a fault. -/
inductive Fault where
  /-- Raised by `step` alone, when `busy` is set and `seqStep` is `first`: no step waits, so there is nothing to go on
  with. No run reaches such a state (log 29). Safe. -/
  | noStepToResume
deriving DecidableEq, Repr

/-- Why the model gives no meaning. -/
inductive Refusal where
  /-- An arm of `exec` that has no meaning yet; raised by no arm. Safe. -/
  | notModelled (mnemonic : String)
  /-- Raised by every operation presented while `busy` is set (93_implementation_defined.md U1: refuse). Safe. -/
  | presentedWhileBusy
  /-- Raised by every operation, and by a reserved command word, presented after release (U8: refuse). Safe. -/
  | instanceReleased
  /-- Raised by MSEL, MRD, MWR and MCH on an instance without mode pins (U8: refuse). Safe. -/
  | modePinsAbsent
deriving DecidableEq, Repr

/-- Construction of a handle, which is also reset (70_reset_and_hazards.md R140): the values of 10_state.md R20. The
spec gives `buf`, the CRC registers, the pins and `seq_step` no value: DESIGN CHOICE zero and `first` (log 9 to 12). -/
def State.construct (cfg : Params) (crcEn : Bool) : State where
  cfg := cfg
  crcEn := crcEn
  buf := ⟨0, 0, 0⟩
  crcC := 0
  crcR := 0
  crcK := 0
  modeCache := none
  pinA0 := false
  pinA1 := false
  busy := false
  seqStep := .first
  released := false
  cmds := []
  busAnswers := []
  pinAnswers := []
  calls := []
  results := []

/-- The machine right after reset: an instance constructed with the default parameters and, DESIGN CHOICE (log 8),
integrity checking enabled. -/
def State.reset : State := State.construct Params.default true

end Sys2Proof.Machine
end

