-- ==== Sys2Proof/Machine/CrcUnit.lean ====
section
/-! DEFINITION. The CRC codec of 40_crc5.md: the function `crc5` (R70) and the bit-serial machine that computes it on
the block's working registers (R71). -/

namespace Sys2Proof.Machine

open Sys2Proof

/-- The 24-bit word of three bytes, `(h << 16) | (m << 8) | l` (40_crc5.md R70, 20_memory.md R35). -/
def word24 (h m l : Byte) : BitVec 24 := (h.setWidth 24 <<< 16) ||| (m.setWidth 24 <<< 8) ||| l.setWidth 24

/-- The composite of a word: its low five bits replaced by the initial value 0x7 (30_encoding.md R54). -/
def compositeOf (w : BitVec 24) : BitVec 24 := (w &&& 0xFFFFE0#24) ||| 0x000007#24

/-- The composite of three bytes (30_encoding.md R54). -/
def composite (h m l : Byte) : BitVec 24 := compositeOf (word24 h m l)

/-- One reduction by the polynomial constant 0x35 (40_crc5.md R70, R71). -/
def reduce (x : BitVec 6) : BitVec 6 := if x.getLsbD 5 then x ^^^ 0x35#6 else x

/-- One loop step: shift left by 1, append a bit of the composite, reduce (40_crc5.md R70). -/
def shiftIn (r : BitVec 6) (b : Bool) : BitVec 6 := reduce ((r <<< 1) ||| (BitVec.ofBool b).setWidth 6)

/-- The running register after step `k`: step 0 reduces the top six bits, step `k` appends bit `18 - k` of the
composite (40_crc5.md R70). -/
def crcLoop (c : BitVec 24) : Nat → BitVec 6
  | 0 => reduce (c.extractLsb' 18 6)
  | k + 1 => shiftIn (crcLoop c k) (c.getLsbD (18 - (k + 1)))

/-- `crc5(h, m, l)` (40_crc5.md R70): step 0 and 18 loop steps. -/
def crc5 (h m l : Byte) : BitVec 5 := (crcLoop (composite h m l) 18).setWidth 5

/-- The working registers of the bit-serial machine (10_state.md R13). -/
structure CrcRegs where
  c : BitVec 24
  r : BitVec 6
  k : BitVec 5
deriving DecidableEq, Repr

/-- The start of an evaluation: the three registers are loaded (40_crc5.md R71). -/
def crcLoad (h m l : Byte) : CrcRegs :=
  ⟨composite h m l, (composite h m l).extractLsb' 18 6, 0⟩

/-- One step of the machine (40_crc5.md R71). -/
def crcStep (u : CrcRegs) : CrcRegs where
  c := u.c
  r := if u.k = 0 then reduce u.r else shiftIn u.r (u.c.getLsbD (18 - u.k.toNat))
  k := u.k + 1

/-- The machine is done when `crc_k` reaches 19 (40_crc5.md R71). -/
def CrcRegs.done (u : CrcRegs) : Bool := u.k == 19

/-- `n` steps of the machine. -/
def crcRun : Nat → CrcRegs → CrcRegs
  | 0, u => u
  | n + 1, u => crcRun n (crcStep u)

/-- One whole evaluation by the bit-serial machine: exactly 19 steps for every input (40_crc5.md R71). -/
def crcEvaluate (h m l : Byte) : CrcRegs := crcRun 19 (crcLoad h m l)

end Sys2Proof.Machine
end

