-- ==== Sys2Proof/Machine/Flags.lean ====
section
/-! DEFINITION. The block has no status flag (10_state.md R17). This file holds the one computed condition an operation
acts on: the acceptance test of a received frame (40_crc5.md R75). -/

namespace Sys2Proof.Machine

open Sys2Proof

/-- The difference of a recomputed CRC and the five CRC bits of a received CRC byte (40_crc5.md R75). -/
def crcDifference (crc : BitVec 5) (l : Byte) : BitVec 5 := crc ^^^ l.setWidth 5

/-- `syndrome(h, m, l)` (40_crc5.md R75). -/
def syndrome (h m l : Byte) : BitVec 5 := crcDifference (crc5 h m l) l

/-- `crc_ok(h, m, l)` (40_crc5.md R75). -/
def crcOk (h m l : Byte) : Bool := syndrome h m l == 0

end Sys2Proof.Machine
end

