-- ==== Sys2Proof/Machine/Operands.lean ====
section
/-! DEFINITION. The operand forms: address tests, mode codes, pin levels, the control byte and the bytes of a frame,
the update formula, and the layout of results. -/

namespace Sys2Proof.Machine

open Sys2Proof

/-- `addr_valid(a)`: the address fits the field and lies in the instance's range (41_frame.md, 20_memory.md R31). -/
def addrValid (c : Params) (a : Byte) : Bool := decide (a ≤ 63) && decide (c.addrLo ≤ a) && decide (a ≤ c.addrHi)

/-- `M_ADDR_VALID(a)` (20_memory.md R32). -/
def mAddrValid (c : Params) (a : Byte) : Bool := !c.mAddrInvalid.contains a

/-- The mode a command code names; code 3 names none (30_encoding.md R60). -/
def modeOfCode (code : BitVec 2) : Option Mode :=
  match code with
  | 0#2 => some .config
  | 1#2 => some .position
  | 2#2 => some .velocity
  | _ => none

/-- `pins(mode)` (30_encoding.md R60). -/
def pinsOf (c : Params) (m : Mode) : Levels :=
  match m with
  | .config => c.modePins.config
  | .position => c.modePins.position
  | .velocity => c.modePins.velocity

/-- The level of the direction flag for write (`true`) or read (30_encoding.md R51, log 17). -/
def directionFlag (c : Params) (rw : Bool) : Bool := rw == c.rwWriteLevel

/-- `ctrl(rw, addr)`: the direction flag and the address in their places, every other bit 0 (30_encoding.md R51). -/
def ctrl (c : Params) (rw : Bool) (addr : Byte) : Byte :=
  ((BitVec.ofBool (directionFlag c rw)).setWidth 8 <<< c.ctrlRwBit.val) ||| (addr <<< c.ctrlAddrLsb.val)

/-- The direction of a received control byte, `true` for write (41_frame.md R81). -/
def ctrlDirection (c : Params) (b0 : Byte) : Bool := b0.getLsbD c.ctrlRwBit.val == c.rwWriteLevel

/-- The address field of a received control byte (41_frame.md R81). -/
def ctrlAddress (c : Params) (b0 : Byte) : BitVec 6 := b0.extractLsb' c.ctrlAddrLsb.val 6

/-- The high byte of the CRC check of a read response: the byte received at index 0, the control byte sent, or zero
(41_frame.md R82, parameter RSP_HIGH; log 18). -/
def responseHigh (c : Params) (addr rx0 : Byte) : Byte :=
  match c.rspHigh with
  | .rx0 => rx0
  | .txCtrl => ctrl c false addr
  | .zero => 0

/-- `(R & ~mask) | (value & mask)` (41_frame.md R84). -/
def updateByte (r mask value : Byte) : Byte := (r &&& ~~~mask) ||| (value &&& mask)

/-- A 5-bit CRC as the CRC byte of a sent frame (30_encoding.md R53). -/
def crcByte (crc : BitVec 5) : Byte := crc.setWidth 8

/-- `frame_len = 2 + crc_en` (10_state.md R11). -/
def frameLen (crcEn : Bool) : Nat := if crcEn then 3 else 2

/-- The first `n` bytes of the buffer, in the order they are sent (20_memory.md R34). -/
def sentBytes (t : Trio) (n : Nat) : List Byte := [t.b0, t.b1, t.b2].take n

/-- The buffer after an exchange of `n` bytes whose received bytes are kept: index by index, as many as were exchanged
(20_memory.md R34, R37). -/
def receiveInto (t rx : Trio) (n : Nat) : Trio :=
  ⟨if 0 < n then rx.b0 else t.b0, if 1 < n then rx.b1 else t.b1, if 2 < n then rx.b2 else t.b2⟩

/-- A result byte, zero-extended (30_encoding.md R62). -/
def byteValue (b : Byte) : Value := b.setWidth 24

/-- A 5-bit result, zero-extended (30_encoding.md R62). -/
def crcValue (crc : BitVec 5) : Value := crc.setWidth 24

/-- The result of FENC: `{b0, b1, b2}` (30_encoding.md R62). -/
def frameValue (b0 b1 b2 : Byte) : Value :=
  (b0.setWidth 24 <<< 16) ||| (b1.setWidth 24 <<< 8) ||| b2.setWidth 24

/-- The result of FDEC: `rw` in bit 14, `addr` in 13:8, `data` in 7:0 (30_encoding.md R62). -/
def decodedValue (rw : Bool) (addr : BitVec 6) (data : Byte) : Value :=
  ((BitVec.ofBool rw).setWidth 24 <<< 14) ||| (addr.setWidth 24 <<< 8) ||| data.setWidth 24

/-- The result of MCH: `{rx[0], rx[1]}`, first byte most significant (20_memory.md R36). -/
def channelValue (b0 b1 : Byte) : Value := (b0.setWidth 24 <<< 8) ||| b1.setWidth 24

/-- The status code of a fault class (30_encoding.md R62, 60_exceptions.md R120). -/
def OpFault.status : OpFault → BitVec 3
  | .io _ => 1
  | .integrity => 2
  | .config => 3
  | .resource => 4

/-- The value field a fault carries: the token of an IoFault, else 0 (30_encoding.md R62). -/
def OpFault.value : OpFault → Value
  | .io e => e
  | .integrity => 0
  | .config => 0
  | .resource => 0

/-- The response word (30_encoding.md R62): status in 31:29, 28:24 zero, value in 23:0. -/
def Result.word : Result → Word
  | .ok v => v.setWidth 32
  | .fault f => (f.status.setWidth 32 <<< 29) ||| f.value.setWidth 32

end Sys2Proof.Machine
end

