-- ==== Sys2Proof/Machine/Ops.lean ====
section
/-! DEFINITION. The shared operations of the sequencer: accepting an operation, issuing a primitive call, waiting for
its answer, ending an operation with a result or by raising a fault, and the writes of the block's registers. -/

namespace Sys2Proof.Machine

open Sys2Proof

/-- What a step, an operation's meaning and the sequencer answer with. -/
abbrev Out := Host.Outcome State Fault Refusal

/-- `frame_len` of the instance (10_state.md R11). -/
def State.frameLen (s : State) : Nat := Machine.frameLen s.crcEn

/-! ### Writes of single registers -/

/-- Write the buffer (10_state.md R12). -/
def State.setBuf (s : State) (b : Trio) : State := { s with buf := b }

/-- Write one byte of an exchange of the mode-pin transport into `buf[0]` (42_modepin.md R101). -/
def State.setBuf0 (s : State) (b : Byte) : State := { s with buf := { s.buf with b0 := b } }

/-- Load a frame to send: `buf[2]` only when the frame has a third byte (41_frame.md R82, R83). -/
def State.loadFrame (s : State) (b0 b1 b2 : Byte) : State :=
  s.setBuf ⟨b0, b1, if s.crcEn then b2 else s.buf.b2⟩

/-- Write the CRC working registers (10_state.md R13). -/
def State.setCrc (s : State) (u : CrcRegs) : State := { s with crcC := u.c, crcR := u.r, crcK := u.k }

/-- Run the CRC unit on three bytes (40_crc5.md R71). -/
def State.runCrc (s : State) (h m l : Byte) : State := s.setCrc (crcEvaluate h m l)

/-- The result the CRC unit holds: the low five bits of the running register (40_crc5.md R71). -/
def State.crcOut (s : State) : BitVec 5 := s.crcR.setWidth 5

/-- Write `mode_cache` (10_state.md R14). -/
def State.setCache (s : State) (m : Mode) : State := { s with modeCache := some m }

/-- Write the latch of pin A0 (10_state.md R15). -/
def State.setPinA0 (s : State) (level : Bool) : State := { s with pinA0 := level }

/-- Write the latch of pin A1 (10_state.md R15). -/
def State.setPinA1 (s : State) (level : Bool) : State := { s with pinA1 := level }

/-! ### Primitive calls and their answers -/

/-- Issue a primitive call (00_scope.md R3 to R5). -/
def State.issue (s : State) (c : Call) : State := { s with calls := s.calls ++ [c] }

/-- Issue `BusXfer(tx, n, desel = 1)` on the first `n` bytes of the buffer (41_frame.md R82, 20_memory.md R37). -/
def State.issueXfer (s : State) (n : Nat) : State := s.issue (.busXfer (sentBytes s.buf n) n true)

/-- The sequencer stands at a step whose primitive has not answered; `busy` stays as it is
(70_reset_and_hazards.md R151). -/
def State.waitAt (s : State) (here : SeqStep) : State := { s with seqStep := here }

/-- The bus has given its next answer. -/
def State.dropBus (s : State) (rest : List BusAnswer) : State := { s with busAnswers := rest }

/-- The pin primitive has given its next answer. -/
def State.dropPin (s : State) (rest : List PinAnswer) : State := { s with pinAnswers := rest }

/-! ### The end of an operation -/

/-- Deliver a result to the host (10_state.md R17). -/
def State.deliver (s : State) (r : Result) : State := { s with results := s.results ++ [r] }

/-- The sequencer is free again: `busy <- 0` (10_state.md R16); `seq_step` between operations is `first` (log 12). -/
def State.goIdle (s : State) : State := { s with busy := false, seqStep := .first }

/-- An operation ends after its last step with result `Ok(value)` (10_state.md R16). -/
def State.finish (s : State) (value : Value) : State := s.goIdle.deliver (.ok value)

/-- `raise`: taking a fault. The operation ends at once, its result is the fault, `busy` goes to 0, control goes nowhere,
and state already written stays written (60_exceptions.md R128, 00_scope.md section 6). There is no return from a fault
(R129): the block is at once ready for the next operation. -/
def State.raise (s : State) (f : OpFault) : State := s.goIdle.deliver (.fault f)

/-! ### Answers of the primitives -/

/-- Wait for the answer of the bus call just issued: none yet, the operation stays where it is (R151); an error ends it
in IoFault with the token unchanged (60_exceptions.md R121); else go on with the received bytes. -/
def State.awaitBus (s : State) (here : SeqStep) (onOk : Trio → State → State) : State :=
  match s.busAnswers with
  | [] => s.waitAt here
  | .ioError e :: rest => (s.dropBus rest).raise (.io e)
  | .ok rx :: rest => onOk rx (s.dropBus rest)

/-- Wait for the answer of the pin call just issued, likewise (00_scope.md R4, 60_exceptions.md R121). -/
def State.awaitPin (s : State) (here : SeqStep) (onOk : State → State) : State :=
  match s.pinAnswers with
  | [] => s.waitAt here
  | .pinError e :: rest => (s.dropPin rest).raise (.io e)
  | .ok :: rest => onOk (s.dropPin rest)

/-! ### The start of an operation -/

/-- The sequencer takes an operation: `busy <- 1`, at its first step (10_state.md R16). -/
def State.start (s : State) : State := { s with busy := true, seqStep := .first }

/-- Accept an operation only when `busy = 0` (20_memory.md R39); refuse one presented while busy (U1, log 21) or after
release (U8, log 22). -/
def accept (s : State) (body : State → State) : Out :=
  if s.released then .refused .instanceReleased
  else if s.busy then .refused .presentedWhileBusy
  else .next (body s.start)

/-- Accept an operation of the mode-pin unit, which needs the two mode pins (60_exceptions.md R124, U8, log 23). -/
def acceptPins (s : State) (body : State → State) : Out :=
  if s.cfg.modePinsPresent then accept s body else .refused .modePinsAbsent

/-- A command word with a reserved `op`: ConfigFault, nothing else (30_encoding.md R63). -/
def rejectReserved (s : State) : Out := accept s fun s => s.raise .config

/-- The next command word the host presents (30_encoding.md R61), and the state once it is taken. -/
def nextCommand (s : State) : Option (Word × State) :=
  match s.cmds with
  | [] => none
  | w :: rest => some (w, { s with cmds := rest })

/-- Release of the instance by the host (70_reset_and_hazards.md R143): no operation may be issued afterwards. DESIGN
CHOICE (log 33): the spec does not say what becomes of an operation that still waits for a primitive; release leaves
`busy` and `seqStep`, so that operation goes on. -/
def State.release (s : State) : State := { s with released := true }

end Sys2Proof.Machine
end

