-- ==== Sys2Proof/Machine/Crc.lean ====
section
/-! DEFINITION. The meanings of CRC5 and CRCCHK (40_crc5.md). -/

namespace Sys2Proof.Machine

open Sys2Proof

/-- CRC5 `h, m, l` (40_crc5.md R70). -/
def execCrc5 (h m l : Byte) (s : State) : Out :=
  accept s fun s =>
    let s := s.runCrc h m l
    s.finish (crcValue s.crcOut)

/-- CRCCHK `h, m, l` (40_crc5.md R75): ends Ok with the syndrome, zero or not. -/
def execCrcchk (h m l : Byte) (s : State) : Out :=
  accept s fun s =>
    let s := s.runCrc h m l
    s.finish (crcValue (crcDifference s.crcOut l))

end Sys2Proof.Machine
end

