-- ==== Sys2Proof/Machine/Frame.lean ====
section
/-! DEFINITION. The frame codec and the framed register transport (41_frame.md): FENC, FDEC, FRD, FWR, FUPD. -/

namespace Sys2Proof.Machine

open Sys2Proof

/-- FENC `rw, addr, value` (41_frame.md R80). -/
def execFenc (rw : Bool) (addr value : Byte) (s : State) : Out :=
  accept s fun s =>
    if addrValid s.cfg addr then
      let b0 := ctrl s.cfg rw addr
      if s.crcEn then
        let s := s.runCrc b0 value 0
        s.finish (frameValue b0 value (crcByte s.crcOut))
      else s.finish (frameValue b0 value 0)
    else s.raise .config

/-- The fields FDEC returns (41_frame.md R81). -/
def State.finishDecode (s : State) (b0 b1 : Byte) : State :=
  s.finish (decodedValue (ctrlDirection s.cfg b0) (ctrlAddress s.cfg b0) b1)

/-- FDEC `b0, b1, b2` (41_frame.md R81). -/
def execFdec (b0 b1 b2 : Byte) (s : State) : Out :=
  accept s fun s =>
    if s.crcEn then
      let s := s.runCrc b0 b1 b2
      if crcDifference s.crcOut b2 = 0 then s.finishDecode b0 b1 else s.raise .integrity
    else s.finishDecode b0 b1

/-! ### The register write (41_frame.md R83), in FWR and in FUPD -/

/-- Step 3, the answer, and step 4: the received bytes are discarded. -/
def State.writeAnswered (s : State) (use : WriteUse) : State :=
  s.awaitBus (.writeXfer use) fun _ s => s.finish 0

/-- Step 2: the write frame, with its CRC byte when the frame has one (30_encoding.md R58). -/
def State.loadWriteFrame (s : State) (addr value : Byte) : State :=
  let b0 := ctrl s.cfg true addr
  if s.crcEn then
    let s := s.runCrc b0 value 0
    s.loadFrame b0 value (crcByte s.crcOut)
  else s.loadFrame b0 value 0

/-- Steps 1 to 4 of R83. -/
def State.writeRegister (s : State) (addr value : Byte) (use : WriteUse) : State :=
  if addrValid s.cfg addr then
    let s := s.loadWriteFrame addr value
    (s.issueXfer s.frameLen).writeAnswered use
  else s.raise .config

/-! ### The register read (41_frame.md R82), in FRD and in FUPD -/

/-- What follows the register read: FRD returns the data byte (R82 step 5), FUPD writes the updated byte back (R84
steps 2 to 4). -/
def State.readDone (s : State) (addr : Byte) (use : ReadUse) : State :=
  match use with
  | .frd => s.finish (byteValue s.buf.b1)
  | .fupd mask value => s.writeRegister addr (updateByte s.buf.b1 mask value) .fupd

/-- Step 4 of R82: the CRC check of the received frame, when integrity checking is enabled. -/
def State.readChecked (s : State) (addr : Byte) (use : ReadUse) : State :=
  if s.crcEn then
    let s := s.runCrc (responseHigh s.cfg addr s.buf.b0) s.buf.b1 s.buf.b2
    if crcDifference s.crcOut s.buf.b2 = 0 then s.readDone addr use else s.raise .integrity
  else s.readDone addr use

/-- Step 3 of R82, the answer: the received bytes go into the buffer. -/
def State.readAnswered (s : State) (addr : Byte) (use : ReadUse) : State :=
  s.awaitBus (.readXfer addr use) fun rx s => (s.setBuf (receiveInto s.buf rx s.frameLen)).readChecked addr use

/-- Steps 1 to 5 of R82: the read command frame carries no CRC (30_encoding.md R56). -/
def State.readRegister (s : State) (addr : Byte) (use : ReadUse) : State :=
  if addrValid s.cfg addr then
    let s := s.loadFrame (ctrl s.cfg false addr) 0 0
    (s.issueXfer s.frameLen).readAnswered addr use
  else s.raise .config

/-! ### The operations -/

/-- FRD `addr` (41_frame.md R82). -/
def execFrd (addr : Byte) (s : State) : Out :=
  accept s fun s => s.readRegister addr .frd

/-- FWR `addr, value` (41_frame.md R83). -/
def execFwr (addr value : Byte) (s : State) : Out :=
  accept s fun s => s.writeRegister addr value .fwr

/-- FUPD `addr, mask, value` (41_frame.md R84): a register read whose value is written back updated. -/
def execFupd (addr mask value : Byte) (s : State) : Out :=
  accept s fun s => s.readRegister addr (.fupd mask value)

end Sys2Proof.Machine
end

