-- ==== Sys2Proof/Machine/ModePin.lean ====
section
/-! DEFINITION. The mode-pin multiplexer and its transport (42_modepin.md): MSEL, MRD, MWR, MCH. -/

namespace Sys2Proof.Machine

open Sys2Proof

/-- Send one byte in an exchange of its own, `desel = 1` (30_encoding.md R59, 42_modepin.md R101). -/
def State.sendByte (s : State) (b : Byte) : State := (s.setBuf0 b).issueXfer 1

/-! ### MRD after the mode selection (42_modepin.md R101) -/

/-- Steps 4 and 5, the answer: the byte received in the second exchange is the result. -/
def State.mrdSecondAnswered (s : State) : State :=
  s.awaitBus .mrdSecond fun rx s =>
    let s := s.setBuf0 rx.b0
    s.finish (byteValue s.buf.b0)

/-- Step 3, the answer, which is ignored, and the second exchange with the same address. -/
def State.mrdFirstAnswered (s : State) (addr : Byte) : State :=
  s.awaitBus (.mrdFirst addr) fun _ s => (s.sendByte addr).mrdSecondAnswered

/-! ### MWR after the mode selection (42_modepin.md R102) -/

/-- Steps 4 and 5, the answer, which is ignored. -/
def State.mwrValueAnswered (s : State) : State :=
  s.awaitBus .mwrValue fun _ s => s.finish 0

/-- Step 3, the answer, which is ignored, and the exchange of the value. -/
def State.mwrAddrAnswered (s : State) (value : Byte) : State :=
  s.awaitBus (.mwrAddr value) fun _ s => (s.sendByte value).mwrValueAnswered

/-! ### MCH after the mode selection (42_modepin.md R103) -/

/-- Steps 3 and 4, the answer: the two received bytes are the result. -/
def State.mchAnswered (s : State) : State :=
  s.awaitBus .mchXfer fun rx s =>
    let s := s.setBuf (receiveInto s.buf rx 2)
    s.finish (channelValue s.buf.b0 s.buf.b1)

/-- Step 3: two zero bytes in one exchange. -/
def State.mchSend (s : State) : State :=
  ((s.setBuf { s.buf with b0 := 0, b1 := 0 }).issueXfer 2).mchAnswered

/-! ### The mode selection (42_modepin.md R100) -/

/-- What follows a mode selection that ended Ok (R100 step 8, R101 to R103 step 3). -/
def State.selected (s : State) (use : SelectUse) : State :=
  match use with
  | .msel => s.finish 0
  | .mrd addr => (s.sendByte addr).mrdFirstAnswered addr
  | .mwr addr value => (s.sendByte addr).mwrAddrAnswered value
  | .mch => s.mchSend

/-- Step 5, the answer, then the cache (step 6) and the settling delay (step 7). -/
def State.pinA1Answered (s : State) (target : Mode) (use : SelectUse) : State :=
  s.awaitPin (.pinA1 target use) fun s =>
    let s := (s.setPinA1 (pinsOf s.cfg target).a1).setCache target
    (s.issue (.delay s.cfg.tModeSettle)).selected use

/-- Step 4, the answer, and the call of step 5. -/
def State.pinA0Answered (s : State) (target : Mode) (use : SelectUse) : State :=
  s.awaitPin (.pinA0 target use) fun s =>
    let s := s.setPinA0 (pinsOf s.cfg target).a0
    (s.issue (.pinSet .a1 (pinsOf s.cfg target).a1)).pinA1Answered target use

/-- Steps 2 to 8: nothing on a hit; on a miss both pins, A0 first. -/
def State.selectMode (s : State) (target : Mode) (use : SelectUse) : State :=
  if s.modeCache = some target then s.selected use
  else (s.issue (.pinSet .a0 (pinsOf s.cfg target).a0)).pinA0Answered target use

/-- The operand test, before any activity, then the mode selection: an operand that names no mode to select ends the
operation in ConfigFault (60_exceptions.md R123, R127). -/
def State.selectOrRefuse (s : State) (named : Option Mode) (use : SelectUse) : State :=
  match named with
  | none => s.raise .config
  | some target => s.selectMode target use

/-- The mode a register access selects: CONFIG for a valid address (42_modepin.md R101, R102). -/
def configFor (c : Params) (addr : Byte) : Option Mode := if mAddrValid c addr then some .config else none

/-- The data channel a mode code names on this instance: not code 3, not CONFIG, and only where RAW_STRAP lets channels
be read raw (42_modepin.md R103 step 1). -/
def channelOf (c : Params) (mode : BitVec 2) : Option Mode :=
  match modeOfCode mode with
  | none => none
  | some .config => none
  | some .position => if c.rawStrap then some .position else none
  | some .velocity => if c.rawStrap then some .velocity else none

/-! ### The operations -/

/-- MSEL `mode` (42_modepin.md R100): code 3 is no mode. -/
def execMsel (mode : BitVec 2) (s : State) : Out :=
  acceptPins s fun s => s.selectOrRefuse (modeOfCode mode) .msel

/-- MRD `addr` (42_modepin.md R101). -/
def execMrd (addr : Byte) (s : State) : Out :=
  acceptPins s fun s => s.selectOrRefuse (configFor s.cfg addr) (.mrd addr)

/-- MWR `addr, value` (42_modepin.md R102). -/
def execMwr (addr value : Byte) (s : State) : Out :=
  acceptPins s fun s => s.selectOrRefuse (configFor s.cfg addr) (.mwr addr value)

/-- MCH `mode` (42_modepin.md R103). -/
def execMch (mode : BitVec 2) (s : State) : Out :=
  acceptPins s fun s => s.selectOrRefuse (channelOf s.cfg mode) .mch

end Sys2Proof.Machine
end

