-- ==== Sys2Proof/Machine/Sequencer.lean ====
section
/-! DEFINITION. The sequencer going on with an operation that waits for a primitive (10_state.md R16,
70_reset_and_hazards.md R151, log 5). -/

namespace Sys2Proof.Machine

open Sys2Proof

/-- Go on from the step the sequencer stands at: the call is issued already, only its answer is awaited. -/
def resume (s : State) : Out :=
  match s.seqStep with
  | .first => .fault .noStepToResume
  | .readXfer addr use => .next (s.readAnswered addr use)
  | .writeXfer use => .next (s.writeAnswered use)
  | .pinA0 target use => .next (s.pinA0Answered target use)
  | .pinA1 target use => .next (s.pinA1Answered target use)
  | .mrdFirst addr => .next (s.mrdFirstAnswered addr)
  | .mrdSecond => .next s.mrdSecondAnswered
  | .mwrAddr value => .next (s.mwrAddrAnswered value)
  | .mwrValue => .next s.mwrValueAnswered
  | .mchXfer => .next s.mchAnswered

end Sys2Proof.Machine
end

