-- ==== Sys2Proof/Machine/Dispatch.lean ====
section
/-! DEFINITION. One arm per operation of 30_encoding.md R61. -/

namespace Sys2Proof.Machine

open Sys2Proof

def exec (i : Instr) (s : State) : Host.Outcome State Fault Refusal :=
  match i with
  | .crc5 h m l => Sys2Proof.Machine.execCrc5 h m l s
  | .fenc rw addr value => Sys2Proof.Machine.execFenc rw addr value s
  | .fdec b0 b1 b2 => Sys2Proof.Machine.execFdec b0 b1 b2 s
  | .frd addr => Sys2Proof.Machine.execFrd addr s
  | .fwr addr value => Sys2Proof.Machine.execFwr addr value s
  | .fupd addr mask value => Sys2Proof.Machine.execFupd addr mask value s
  | .crcchk h m l => Sys2Proof.Machine.execCrcchk h m l s
  | .msel mode => Sys2Proof.Machine.execMsel mode s
  | .mrd addr => Sys2Proof.Machine.execMrd addr s
  | .mwr addr value => Sys2Proof.Machine.execMwr addr value s
  | .mch mode => Sys2Proof.Machine.execMch mode s

end Sys2Proof.Machine
end

