-- ==== Sys2Proof/Machine/Step.lean ====
section
/-! DEFINITION. One step of the block: while an operation runs, go on with it; else take the next command the host
presents and run it (20_memory.md R39, 30_encoding.md R61). Log 1, 5, 7. -/

namespace Sys2Proof.Machine

open Sys2Proof

/-- A running operation goes on; else the next command word is decoded and its operation run; a reserved one ends in
ConfigFault (30_encoding.md R63); with no command presented nothing happens (60_exceptions.md R126). DESIGN CHOICE
(log 33): an operation that was running when the instance was released goes on like any other. -/
def step (s : State) : Host.Outcome State Fault Refusal :=
  if s.busy then resume s
  else
    match nextCommand s with
    | none => .next s
    | some (w, s') =>
      match decode w with
      | .ok i => exec i s'
      | .error _ => rejectReserved s'

/-- `s` with the command word `w` presented next, before any other. A busy block takes no command, so `busy` is cleared:
the fetch needs it. -/
def State.withFetchWord (s : State) (nbits w : Nat) : State :=
  { s with cmds := BitVec.ofNat 32 (w % 2 ^ nbits) :: s.cmds, busy := false }

end Sys2Proof.Machine
end

