-- ==== Sys2Proof/Safety.lean ====
section
/-! DEFINITION. The terms in which claims about the block are stated: when it accepts an operation, what of a state the
spec fixes, the frames of the transports, the effect of a mode selection, and the invariant of every state. -/

namespace Sys2Proof.Machine

open Sys2Proof

/-! ### Accepting operations -/

/-- The block accepts an operation (20_memory.md R39, 70_reset_and_hazards.md R143). -/
abbrev State.Ready (s : State) : Prop := s.busy = false ∧ s.released = false

/-- The block accepts an operation of the mode-pin unit (60_exceptions.md R124). -/
abbrev State.PinReady (s : State) : Prop := s.Ready ∧ s.cfg.modePinsPresent = true

/-- The operations of the mode-pin unit (42_modepin.md). -/
def usesPins : Instr → Bool
  | .msel _ => true
  | .mrd _ => true
  | .mwr _ _ => true
  | .mch _ => true
  | .crc5 _ _ _ => false
  | .fenc _ _ _ => false
  | .fdec _ _ _ => false
  | .frd _ => false
  | .fwr _ _ => false
  | .fupd _ _ _ => false
  | .crcchk _ _ _ => false

/-- The block accepts the operation `i`. -/
abbrev State.Accepts (s : State) (i : Instr) : Prop :=
  s.Ready ∧ (usesPins i = true → s.cfg.modePinsPresent = true)

/-! ### What of a state the spec fixes -/

/-- A state with the registers erased whose content between operations the spec leaves unspecified: the buffer, the CRC
working registers, the sequencer's step (10_state.md R12, R13, R16). Two states with the same visible part agree on
everything else, the outputs included. -/
def State.visible (s : State) : State :=
  { s with buf := ⟨0, 0, 0⟩, crcC := 0, crcR := 0, crcK := 0, seqStep := .first }

/-- The state with one more result delivered. -/
def State.withResult (s : State) (r : Result) : State := { s with results := s.results ++ [r] }

/-- The state with more primitive calls issued, in order. -/
def State.withCalls (s : State) (cs : List Call) : State := { s with calls := s.calls ++ cs }

/-! ### Frames -/

/-- The bytes of a frame, the third only when integrity checking is enabled (30_encoding.md R50). -/
def frameBytes (crcEn : Bool) (b0 b1 b2 : Byte) : List Byte := if crcEn then [b0, b1, b2] else [b0, b1]

/-- The call that sends a frame (41_frame.md R82, R83). -/
def frameCall (crcEn : Bool) (b0 b1 b2 : Byte) : Call := .busXfer (frameBytes crcEn b0 b1 b2) (frameLen crcEn) true

/-- The read command frame of FRD, zero-filled (30_encoding.md R56). -/
def readCall (s : State) (addr : Byte) : Call := frameCall s.crcEn (ctrl s.cfg false addr) 0 0

/-- The write frame of FWR, with its CRC byte (30_encoding.md R58). -/
def writeCall (s : State) (addr value : Byte) : Call :=
  frameCall s.crcEn (ctrl s.cfg true addr) value (crcByte (crc5 (ctrl s.cfg true addr) value 0))

/-- The received frame of a read passes the check of 41_frame.md R82 step 4. -/
def readAccepted (s : State) (addr : Byte) (rx : Trio) : Bool :=
  !s.crcEn || crcOk (responseHigh s.cfg addr rx.b0) rx.b1 rx.b2

/-- The exchange of one byte on the mode-pin transport (42_modepin.md R106). -/
def byteCall (b : Byte) : Call := .busXfer [b] 1 true

/-! ### The CRC function on 24-bit words -/

/-- `crc5` of the three bytes of a word (40_crc5.md R72, R73). -/
def crcOfWord (w : BitVec 24) : BitVec 5 := crc5 (w.extractLsb' 16 8) (w.extractLsb' 8 8) (w.extractLsb' 0 8)

/-- `crc_ok` of the three bytes of a word (40_crc5.md R75). -/
def crcOkWord (w : BitVec 24) : Bool := crcOk (w.extractLsb' 16 8) (w.extractLsb' 8 8) (w.extractLsb' 0 8)

/-- One bit of a word. -/
def bitMask (k : Nat) : BitVec 24 := 1#24 <<< k

/-- A word of bits as a polynomial over GF(2), bit `i` the coefficient of x^i (40_crc5.md R72). -/
noncomputable def bitPolynomial {n : Nat} (v : BitVec n) : Polynomial (ZMod 2) :=
  ∑ i ∈ Finset.range n, if v.getLsbD i then Polynomial.X ^ i else 0

/-- `P = x^5 + x^4 + x^2 + 1`, the constant 0x35 (40_crc5.md R72, 00_scope.md R2). -/
noncomputable def generatorPolynomial : Polynomial (ZMod 2) :=
  Polynomial.X ^ 5 + Polynomial.X ^ 4 + Polynomial.X ^ 2 + 1

/-! ### Mode selection -/

/-- The mode an operation selects, none where it selects none or its operand is refused (42_modepin.md R100 to R103). -/
def targetMode (c : Params) : Instr → Option Mode
  | .msel mode => modeOfCode mode
  | .mrd addr => configFor c addr
  | .mwr addr _ => configFor c addr
  | .mch mode => channelOf c mode
  | .crc5 _ _ _ => none
  | .fenc _ _ _ => none
  | .fdec _ _ _ => none
  | .frd _ => none
  | .fwr _ _ => none
  | .fupd _ _ _ => none
  | .crcchk _ _ _ => none

/-- The calls of a whole mode selection: none on a hit, else both pins and the delay (42_modepin.md R106). -/
def selectCalls (s : State) (m : Mode) : List Call :=
  if s.modeCache = some m then []
  else [.pinSet .a0 (pinsOf s.cfg m).a0, .pinSet .a1 (pinsOf s.cfg m).a1, .delay s.cfg.tModeSettle]

/-- A mode selection can end Ok: a hit, or both pin writes will be answered Ok (42_modepin.md R100). -/
def State.selectable (s : State) (m : Mode) : Prop :=
  s.modeCache = some m ∨ ∃ rest, s.pinAnswers = .ok :: .ok :: rest

/-- The state after a mode selection that ended Ok (42_modepin.md R100). -/
def State.afterSelect (s : State) (m : Mode) : State :=
  if s.modeCache = some m then s
  else
    { s with
      pinA0 := (pinsOf s.cfg m).a0
      pinA1 := (pinsOf s.cfg m).a1
      modeCache := some m
      pinAnswers := s.pinAnswers.drop 2
      calls := s.calls ++ selectCalls s m }

/-- The mode selection an operation contains can end Ok, if it contains one (42_modepin.md R100 to R103). -/
def State.selectsOk (s : State) (i : Instr) : Prop := ∀ m, targetMode s.cfg i = some m → s.selectable m

/-- The state in which an operation issues its first exchange: after the mode selection it contains, if any. -/
def State.beforeExchange (s : State) (i : Instr) : State :=
  match targetMode s.cfg i with
  | none => s
  | some m => s.afterSelect m

/-- The first exchange of an operation, its operands valid (41_frame.md R86, 42_modepin.md R106). -/
def firstExchange (s : State) : Instr → Option Call
  | .frd addr => some (readCall s addr)
  | .fwr addr value => some (writeCall s addr value)
  | .fupd addr _ _ => some (readCall s addr)
  | .mrd addr => some (byteCall addr)
  | .mwr addr _ => some (byteCall addr)
  | .mch _ => some (.busXfer [0, 0] 2 true)
  | .msel _ => none
  | .crc5 _ _ _ => none
  | .fenc _ _ _ => none
  | .fdec _ _ _ => none
  | .crcchk _ _ _ => none

/-- The second exchange of an operation, after a first that received `rx`: none where there is none, or where FUPD's read
fails its check (41_frame.md R84, R86, 42_modepin.md R106). -/
def secondExchange (s : State) (rx : Trio) : Instr → Option Call
  | .fupd addr mask value =>
    if readAccepted s addr rx then some (writeCall s addr (updateByte rx.b1 mask value)) else none
  | .mrd addr => some (byteCall addr)
  | .mwr _ value => some (byteCall value)
  | .frd _ => none
  | .fwr _ _ => none
  | .mch _ => none
  | .msel _ => none
  | .crc5 _ _ _ => none
  | .fenc _ _ _ => none
  | .fdec _ _ _ => none
  | .crcchk _ _ _ => none

/-- The pins show the cached mode, if there is one (10_state.md R15). -/
def State.agrees (s : State) : Prop :=
  ∀ m, s.modeCache = some m → s.pinA0 = (pinsOf s.cfg m).a0 ∧ s.pinA1 = (pinsOf s.cfg m).a1

/-! ### Fault causes -/

/-- The causes of ConfigFault among an operation's operands (60_exceptions.md R123). -/
def configCause (c : Params) : Instr → Bool
  | .crc5 _ _ _ => false
  | .fenc _ addr _ => !addrValid c addr
  | .fdec _ _ _ => false
  | .frd addr => !addrValid c addr
  | .fwr addr _ => !addrValid c addr
  | .fupd addr _ _ => !addrValid c addr
  | .crcchk _ _ _ => false
  | .msel mode => mode == 3
  | .mrd addr => !mAddrValid c addr
  | .mwr addr _ => !mAddrValid c addr
  | .mch mode => mode == 3 || mode == 0 || !c.rawStrap

/-- The operations that can end in IoFault (60_exceptions.md R125). -/
def mayFailIo : Instr → Bool
  | .frd _ => true
  | .fwr _ _ => true
  | .fupd _ _ _ => true
  | .msel _ => true
  | .mrd _ => true
  | .mwr _ _ => true
  | .mch _ => true
  | .crc5 _ _ _ => false
  | .fenc _ _ _ => false
  | .fdec _ _ _ => false
  | .crcchk _ _ _ => false

/-- The operations that can end in IntegrityFault, when `crc_en = 1` (60_exceptions.md R125). -/
def mayFailIntegrity : Instr → Bool
  | .fdec _ _ _ => true
  | .frd _ => true
  | .fupd _ _ _ => true
  | .crc5 _ _ _ => false
  | .fenc _ _ _ => false
  | .fwr _ _ => false
  | .crcchk _ _ _ => false
  | .msel _ => false
  | .mrd _ => false
  | .mwr _ _ => false
  | .mch _ => false

/-! ### The invariant of every state -/

/-- The step waits for the bus. -/
def SeqStep.onBus : SeqStep → Bool
  | .first => false
  | .readXfer _ _ => true
  | .writeXfer _ => true
  | .pinA0 _ _ => false
  | .pinA1 _ _ => false
  | .mrdFirst _ => true
  | .mrdSecond => true
  | .mwrAddr _ => true
  | .mwrValue => true
  | .mchXfer => true

/-- The step waits for the pin primitive. -/
def SeqStep.onPin : SeqStep → Bool
  | .first => false
  | .readXfer _ _ => false
  | .writeXfer _ => false
  | .pinA0 _ _ => true
  | .pinA1 _ _ => true
  | .mrdFirst _ => false
  | .mrdSecond => false
  | .mwrAddr _ => false
  | .mwrValue => false
  | .mchXfer => false

/-- The selection of `m` fits what follows it: CONFIG before a register access, a data channel before a raw read
(42_modepin.md R101 to R103). -/
def SelectUse.fits (m : Mode) : SelectUse → Bool
  | .msel => true
  | .mrd _ => m == .config
  | .mwr _ _ => m == .config
  | .mch => m != .config

/-- What holds of the cache and the operands while the sequencer waits at a step: mode before bus cycle
(70_reset_and_hazards.md R145); a pin write only on a miss (42_modepin.md R100); a read only of a valid address. -/
def SeqStep.fits (s : State) : SeqStep → Bool
  | .first => true
  | .readXfer addr _ => addrValid s.cfg addr
  | .writeXfer _ => true
  | .pinA0 m use => s.modeCache != some m && SelectUse.fits m use && s.cfg.modePinsPresent
  | .pinA1 m use => s.modeCache != some m && SelectUse.fits m use && s.cfg.modePinsPresent
  | .mrdFirst _ => s.modeCache == some .config && s.cfg.modePinsPresent
  | .mrdSecond => s.modeCache == some .config && s.cfg.modePinsPresent
  | .mwrAddr _ => s.modeCache == some .config && s.cfg.modePinsPresent
  | .mwrValue => s.modeCache == some .config && s.cfg.modePinsPresent
  | .mchXfer => (s.modeCache == some .position || s.modeCache == some .velocity) && s.cfg.modePinsPresent

/-- The call a waiting step has issued last. -/
def SeqStep.awaits (step : SeqStep) (c : Call) : Bool :=
  match c with
  | .busXfer _ _ _ => step.onBus
  | .pinSet _ _ => step.onPin
  | .delay _ => false

/-- An exchange is exact: as many bytes as its length, one of the lengths of 20_memory.md R37, deselecting after. -/
def Call.exact (crcEn : Bool) : Call → Bool
  | .busXfer tx n desel => desel && tx.length == n && (n == 1 || n == 2 || (n == 3 && crcEn))
  | .pinSet _ _ => true
  | .delay _ => true

/-- The invariant of every state of an instance. -/
structure State.Inv (s : State) : Prop where
  /-- the parameters are as the spec asks (00_scope.md section 5) -/
  params : s.cfg.wf = true
  /-- an operation runs exactly while the sequencer waits at a step of it (10_state.md R16) -/
  sequencer : s.busy = true ↔ s.seqStep ≠ .first
  /-- the waiting step fits the mode cache and the parameters -/
  fits : s.seqStep.fits s = true
  /-- each call is answered before the next is issued: the last call is the one awaited (20_memory.md R39) -/
  awaited : s.busy = true → ∃ c, s.calls.getLast? = some c ∧ s.seqStep.awaits c = true
  /-- every exchange is exact (20_memory.md R37) -/
  exact : ∀ c ∈ s.calls, c.exact s.crcEn = true
  /-- no operation delivers ResourceFault (60_exceptions.md R124) -/
  noResource : Result.fault .resource ∉ s.results
  /-- IntegrityFault only with integrity checking (60_exceptions.md R122) -/
  integrity : Result.fault .integrity ∈ s.results → s.crcEn = true

end Sys2Proof.Machine
end

