-- ==== Sys2Proof/WellFormed.lean ====
section
/-! DEFINITION. The operands the spec admits on every instance. An operation that fails a check here is still an
operation with a meaning: it ends in ConfigFault (60_exceptions.md R123). Log 32. -/

namespace Sys2Proof

/-- A framed address fits the 6-bit field (20_memory.md R31). -/
def framedAddrFits (addr : Byte) : Bool := decide (addr ≤ 63)

/-- A mode code names a mode (30_encoding.md R60: code 3 is reserved). -/
def modeCodeNamed (code : BitVec 2) : Bool := code != 3

/-- A mode code is not that of CONFIG, which is no data channel (30_encoding.md R63). -/
def channelCode (code : BitVec 2) : Bool := code != 0

/-- The parameter-independent operand tests of 60_exceptions.md R123. -/
def Instr.wellFormed : Instr → Bool
  | .crc5 _ _ _ => true
  | .fenc _ addr _ => framedAddrFits addr
  | .fdec _ _ _ => true
  | .frd addr => framedAddrFits addr
  | .fwr addr _ => framedAddrFits addr
  | .fupd addr _ _ => framedAddrFits addr
  | .crcchk _ _ _ => true
  | .msel mode => modeCodeNamed mode
  | .mrd _ => true
  | .mwr _ _ => true
  | .mch mode => modeCodeNamed mode && channelCode mode

end Sys2Proof
end

