-- ==== Sys2Proof/Certificates/Slice0/Obligations.lean ====
section
/-! DEFINITION. The statements for the provers, each from the rules of spec/ its docstring names. "Log <n>" is
notes/assumptions/<n>.md. -/

open Sys2Proof Sys2Proof.Machine

/-! ### The command word -/

/-- 30_encoding.md R61, R64: every operation, with every operand value, is read back from its command word. -/
def Obligations.DecodeOfEncodeIsTheOperation : Prop :=
  ∀ i : Instr, decode (encode i) = .ok i

/-- 30_encoding.md R61: the decoder matches on `op` and reads an operation's own fields alone. A word that decodes to
`i` agrees with `i`'s command word on those bits, and every word that does so decodes to `i`. -/
def Obligations.DecodeReadsExactlyTheUsedBits : Prop :=
  ∀ (w : Word) (i : Instr), decode w = .ok i ↔ w &&& i.usedBits = encode i

/-- 95_test_vectors.md section 3: some command words written out there decode to their operations. -/
def Obligations.CommandWordsOfTheProgramsDecode : Prop :=
  decode 0x10923400 = .ok (.crc5 0x92 0x34 0x00) ∧
  decode 0x21120034 = .ok (.fenc true 0x12 0x34) ∧
  decode 0x60120F05 = .ok (.fupd 0x12 0x0F 0x05) ∧
  decode 0xA091007F = .ok (.mwr 0x91 0x7F) ∧
  decode 0xB4000000 = .ok (.mch 1)

/-- 30_encoding.md R63: a word is rejected exactly when its `op` is 0x0 or 0xC to 0xF, and a ready block that is
presented with it ends in ConfigFault, with no pin or bus activity and no other change than the command taken. -/
def Obligations.ReservedCommandIsAConfigFault : Prop :=
  (∀ w : Word, (∃ e, decode w = .error e) ↔ (opField w = 0 ∨ 0xC#4 ≤ opField w)) ∧
  ∀ (s : State) (w : Word) (rest : List Word), s.Ready → s.cmds = w :: rest →
    (opField w = 0 ∨ 0xC#4 ≤ opField w) →
    ∃ t, step s = .next t ∧
      t = { s with cmds := rest, seqStep := t.seqStep, results := s.results ++ [.fault .config] }

/-- 30_encoding.md R62: the response word of every result: its status, the reserved bits 28:24, its value. -/
def Obligations.ResponseWordFields : Prop :=
  (∀ v : Value, (Result.word (.ok v)).extractLsb' 29 3 = 0 ∧ (Result.word (.ok v)).extractLsb' 0 24 = v) ∧
  (∀ e : ErrToken, (Result.word (.fault (.io e))).extractLsb' 29 3 = 1 ∧
    (Result.word (.fault (.io e))).extractLsb' 0 24 = e) ∧
  Result.word (.fault .integrity) = 0x40000000 ∧
  Result.word (.fault .config) = 0x60000000 ∧
  Result.word (.fault .resource) = 0x80000000 ∧
  ∀ r : Result, (Result.word r).extractLsb' 24 5 = 0

/-- 30_encoding.md R62: where each operation's result lies in the 24-bit value field. That the first byte of a raw channel
value is the more significant one (the last clause) is general knowledge by the spec's own mark (92_eei_decisions.md D18,
log 26). -/
def Obligations.ResultValueFields : Prop :=
  (∀ crc : BitVec 5, (crcValue crc).extractLsb' 0 5 = crc ∧ (crcValue crc).extractLsb' 5 19 = 0) ∧
  (∀ b : Byte, (byteValue b).extractLsb' 0 8 = b ∧ (byteValue b).extractLsb' 8 16 = 0) ∧
  (∀ b0 b1 b2 : Byte, (frameValue b0 b1 b2).extractLsb' 16 8 = b0 ∧
    (frameValue b0 b1 b2).extractLsb' 8 8 = b1 ∧ (frameValue b0 b1 b2).extractLsb' 0 8 = b2) ∧
  (∀ (rw : Bool) (addr : BitVec 6) (data : Byte), (decodedValue rw addr data).getLsbD 14 = rw ∧
    (decodedValue rw addr data).extractLsb' 8 6 = addr ∧ (decodedValue rw addr data).extractLsb' 0 8 = data ∧
    (decodedValue rw addr data).extractLsb' 15 9 = 0) ∧
  (∀ b0 b1 : Byte, (channelValue b0 b1).extractLsb' 8 8 = b0 ∧ (channelValue b0 b1).extractLsb' 0 8 = b1 ∧
    (channelValue b0 b1).extractLsb' 16 8 = 0)

/-! ### Reset, acceptance, the step -/

/-- 70_reset_and_hazards.md R140: what construction, which is reset, leaves: `crc_en` from the configuration,
`mode_cache` NONE, `busy` 0, no pin write and no exchange, and the first operation is accepted. -/
def Obligations.ConstructionGivesTheResetState : Prop :=
  ∀ (cfg : Params) (crcEn : Bool),
    (State.construct cfg crcEn).crcEn = crcEn ∧ (State.construct cfg crcEn).frameLen = 2 + crcEn.toNat ∧
    (State.construct cfg crcEn).modeCache = none ∧ (State.construct cfg crcEn).busy = false ∧
    (State.construct cfg crcEn).calls = [] ∧
    ∀ i, (usesPins i = true → cfg.modePinsPresent = true) → ∃ t, exec i (State.construct cfg crcEn) = .next t

/-- 20_memory.md R39: a block that is not busy takes the next command the host presents and runs its operation; with no
command presented nothing happens (log 1). -/
def Obligations.StepRunsTheDecodedOperation : Prop :=
  (∀ (s : State) (w : Word) (rest : List Word) (i : Instr), s.busy = false → s.cmds = w :: rest →
    decode w = .ok i → step s = exec i { s with cmds := rest }) ∧
  ∀ s : State, s.busy = false → s.cmds = [] → step s = .next s

/-- 93_implementation_defined.md U1, U8 (treatment: refuse): an operation presented while busy, after release, or to a
mode-pin unit without pins has no meaning, and otherwise every operation has one. The names are the model's (log 21 to
23). -/
def Obligations.OperationsAreRefusedOnlyOutsideTheContract : Prop :=
  ∀ (i : Instr) (s : State),
    (∃ r, exec i s = .refused r) ↔
      (s.released = true ∨ s.busy = true ∨ (usesPins i = true ∧ s.cfg.modePinsPresent = false))

/-- 10_state.md R17, 60_exceptions.md R120: an operation the block accepts delivers exactly one result and is over, or
it waits for a primitive and delivers none; results already delivered stay as they are. -/
def Obligations.OneResultPerOperation : Prop :=
  ∀ (i : Instr) (s t : State), exec i s = .next t →
    (t.busy = false ∧ ∃ r, t.results = s.results ++ [r]) ∨
    (t.busy = true ∧ t.seqStep ≠ .first ∧ t.results = s.results)

/-! ### The CRC codec -/

/-- 40_crc5.md R70: CRC5 ends Ok with `crc5(h, m, l)`, for every input, and writes nothing but the CRC working
registers. -/
def Obligations.Crc5DeliversTheCrc : Prop :=
  ∀ (h m l : Byte) (s : State), s.Ready →
    ∃ t, exec (.crc5 h m l) s = .next t ∧
      t.visible = (s.withResult (.ok ((crc5 h m l).setWidth 24))).visible ∧ t.buf = s.buf

/-- 40_crc5.md R75: CRCCHK ends Ok with the syndrome, the exclusive-OR of the CRC and the low five bits of the third
byte, for every input; it is zero exactly for an accepted frame. -/
def Obligations.CrcchkDeliversTheSyndrome : Prop :=
  ∀ (h m l : Byte) (s : State), s.Ready →
    (∃ t, exec (.crcchk h m l) s = .next t ∧
      t.visible = (s.withResult (.ok ((crc5 h m l ^^^ l.setWidth 5).setWidth 24))).visible ∧ t.buf = s.buf) ∧
    (crcOk h m l = true ↔ crc5 h m l = l.setWidth 5)

/-- 40_crc5.md R71: the bit-serial machine is done after exactly 19 steps, never before, and holds the result of the
function of R70. -/
def Obligations.BitSerialMachineComputesCrc5 : Prop :=
  ∀ h m l : Byte,
    (∀ n, n < 19 → (crcStep^[n] (crcLoad h m l)).done = false) ∧
    (crcStep^[19] (crcLoad h m l)).done = true ∧
    crcEvaluate h m l = crcStep^[19] (crcLoad h m l) ∧
    (crcEvaluate h m l).r.setWidth 5 = crc5 h m l

/-- 40_crc5.md R72: `crc5` is the remainder of the composite, and of the 19 covered bits times x^5 with the initial
value added, by P = x^5 + x^4 + x^2 + 1 over GF(2). -/
def Obligations.Crc5IsThePolynomialRemainder : Prop :=
  ∀ h m l : Byte,
    bitPolynomial (crc5 h m l) = bitPolynomial (composite h m l) %ₘ generatorPolynomial ∧
    bitPolynomial (crc5 h m l) =
      (bitPolynomial ((word24 h m l).extractLsb' 5 19) * Polynomial.X ^ 5) %ₘ generatorPolynomial +
        bitPolynomial (7#5)

/-- 40_crc5.md R73: the low five bits do not matter; the function is affine; its value at zero; one flipped covered bit
changes it; two flipped covered bits 15 apart do not. -/
def Obligations.Crc5IsAffineOnTheCoveredBits : Prop :=
  (∀ h m l : Byte, crc5 h m l = crc5 h m (l &&& 0xE0)) ∧
  (∀ x y : BitVec 24, crcOfWord (x ^^^ y) = crcOfWord x ^^^ crcOfWord y ^^^ 0x07) ∧
  crc5 0 0 0 = 0x07 ∧
  (∀ (w : BitVec 24) (k : Nat), 5 ≤ k → k ≤ 23 → crcOfWord (w ^^^ bitMask k) ≠ crcOfWord w) ∧
  (∀ (w : BitVec 24) (k : Nat), 5 ≤ k → k + 15 ≤ 23 →
    crcOfWord (w ^^^ bitMask k ^^^ bitMask (k + 15)) = crcOfWord w)

/-- 40_crc5.md R76: flipping any one of the 24 bits of an accepted frame gives a rejected one. -/
def Obligations.EverySingleBitFlipIsRejected : Prop :=
  ∀ (w : BitVec 24) (p : Nat), p < 24 → crcOkWord w = true → crcOkWord (w ^^^ bitMask p) = false

/-- 30_encoding.md R54: the composite keeps the 19 covered bits and holds the initial value 0b00111 below them. -/
def Obligations.CompositeKeepsTheCoveredBits : Prop :=
  ∀ h m l : Byte,
    (composite h m l).extractLsb' 5 19 = (word24 h m l).extractLsb' 5 19 ∧
    (composite h m l).extractLsb' 0 5 = 0b00111 ∧
    (word24 h m l).extractLsb' 16 8 = h ∧ (word24 h m l).extractLsb' 8 8 = m ∧ (word24 h m l).extractLsb' 0 8 = l

/-! ### The frame codec -/

/-- 30_encoding.md R51: the control byte of the decided layout, for every 6-bit address. -/
def Obligations.ControlByteOfTheDecidedLayout : Prop :=
  ∀ (c : Params) (addr : Byte), c.decidedLayout = true → addr ≤ 63 →
    ctrl c false addr = addr ∧ ctrl c true addr = 0x80 ||| addr ∧
    ∀ rw, (ctrl c rw addr).getLsbD 7 = rw ∧ (ctrl c rw addr).getLsbD 6 = false ∧
      (ctrl c rw addr).extractLsb' 0 6 = addr.setWidth 6

/-- 41_frame.md R80: FENC ends in ConfigFault on an invalid address, else Ok with the frame: control byte, value, and
the CRC byte or, without integrity checking, 0x00. Nothing but the CRC working registers is written. -/
def Obligations.FencDeliversTheFrame : Prop :=
  ∀ (rw : Bool) (addr value : Byte) (s : State), s.Ready →
    ∃ t, exec (.fenc rw addr value) s = .next t ∧ t.buf = s.buf ∧
      t.visible = (s.withResult
        (if addrValid s.cfg addr then
          .ok (frameValue (ctrl s.cfg rw addr) value
            (if s.crcEn then crcByte (crc5 (ctrl s.cfg rw addr) value 0) else 0))
        else .fault .config)).visible

/-- 41_frame.md R81: FDEC ends in IntegrityFault exactly when `crc_en = 1` and the syndrome is nonzero, else Ok with the
direction, the address field and the data byte in the places of 30_encoding.md R62; it never tests the address. In the
decided layout the direction is bit 7 and the address bits 5:0 of the first byte. -/
def Obligations.FdecDeliversTheFields : Prop :=
  ∀ (b0 b1 b2 : Byte) (s : State), s.Ready →
    ∃ t, exec (.fdec b0 b1 b2) s = .next t ∧ t.buf = s.buf ∧
      t.visible = (s.withResult
        (if s.crcEn = true ∧ syndrome b0 b1 b2 ≠ 0 then .fault .integrity
        else .ok (decodedValue (ctrlDirection s.cfg b0) (ctrlAddress s.cfg b0) b1))).visible ∧
      (s.cfg.decidedLayout = true →
        ctrlDirection s.cfg b0 = b0.getLsbD 7 ∧ ctrlAddress s.cfg b0 = b0.extractLsb' 0 6)

/-- 41_frame.md R85: FDEC of the frame FENC delivers gives the operands back, with and without integrity checking; with
it, every single-bit flip of the frame ends in IntegrityFault; without it, nothing is detected. It holds for every
layout of the control byte that keeps the two fields apart. -/
def Obligations.DecodeOfEncodedFrameRoundTrips : Prop :=
  ∀ (rw : Bool) (addr value : Byte) (s : State), s.Ready → s.cfg.fieldsApart = true → addrValid s.cfg addr = true →
    ∃ (t : State) (v : Value), exec (.fenc rw addr value) s = .next t ∧ t.Ready ∧ t.results = s.results ++ [.ok v] ∧
      (∃ u, exec (.fdec (v.extractLsb' 16 8) (v.extractLsb' 8 8) (v.extractLsb' 0 8)) t = .next u ∧
        u.results = t.results ++ [.ok (decodedValue rw (addr.setWidth 6) value)]) ∧
      (s.crcEn = true → ∀ p, p < 24 → ∃ u,
        exec (.fdec ((v ^^^ bitMask p).extractLsb' 16 8) ((v ^^^ bitMask p).extractLsb' 8 8)
          ((v ^^^ bitMask p).extractLsb' 0 8)) t = .next u ∧
        u.results = t.results ++ [.fault .integrity]) ∧
      (s.crcEn = false → ∀ b0 b1 b2 : Byte, ∃ u, exec (.fdec b0 b1 b2) t = .next u ∧
        u.results = t.results ++ [.ok (decodedValue (ctrlDirection s.cfg b0) (ctrlAddress s.cfg b0) b1)])

/-! ### The framed register transport -/

/-- 41_frame.md R82: FRD, each end of it: an invalid address before any bus activity; the one exchange failing, its
token unchanged; the received frame failing its check; the data byte. -/
def Obligations.FrdFollowsItsRule : Prop :=
  ∀ (addr : Byte) (s : State), s.Ready →
    (addrValid s.cfg addr = false →
      ∃ t, exec (.frd addr) s = .next t ∧ t.visible = (s.withResult (.fault .config)).visible) ∧
    (addrValid s.cfg addr = true → ∀ (e : ErrToken) (rest : List BusAnswer), s.busAnswers = .ioError e :: rest →
      ∃ t, exec (.frd addr) s = .next t ∧
        t.visible =
          ((({ s with busAnswers := rest }).withCalls [readCall s addr]).withResult (.fault (.io e))).visible) ∧
    (addrValid s.cfg addr = true → ∀ (rx : Trio) (rest : List BusAnswer), s.busAnswers = .ok rx :: rest →
      (readAccepted s addr rx = false →
        ∃ t, exec (.frd addr) s = .next t ∧
          t.visible =
            ((({ s with busAnswers := rest }).withCalls [readCall s addr]).withResult (.fault .integrity)).visible) ∧
      (readAccepted s addr rx = true →
        ∃ t, exec (.frd addr) s = .next t ∧
          t.visible =
            ((({ s with busAnswers := rest }).withCalls [readCall s addr]).withResult
              (.ok (rx.b1.setWidth 24))).visible ∧
          t.buf.b0 = rx.b0 ∧ t.buf.b1 = rx.b1 ∧ (s.crcEn = true → t.buf.b2 = rx.b2)))

/-- 41_frame.md R83: FWR, each end of it: an invalid address before any bus activity; the one exchange failing; Ok
whatever is received, the buffer keeping the sent bytes. -/
def Obligations.FwrFollowsItsRule : Prop :=
  ∀ (addr value : Byte) (s : State), s.Ready →
    (addrValid s.cfg addr = false →
      ∃ t, exec (.fwr addr value) s = .next t ∧ t.visible = (s.withResult (.fault .config)).visible) ∧
    (addrValid s.cfg addr = true → ∀ (e : ErrToken) (rest : List BusAnswer), s.busAnswers = .ioError e :: rest →
      ∃ t, exec (.fwr addr value) s = .next t ∧
        t.visible =
          ((({ s with busAnswers := rest }).withCalls [writeCall s addr value]).withResult
            (.fault (.io e))).visible) ∧
    (addrValid s.cfg addr = true → ∀ (rx : Trio) (rest : List BusAnswer), s.busAnswers = .ok rx :: rest →
      ∃ t, exec (.fwr addr value) s = .next t ∧
        t.visible =
          ((({ s with busAnswers := rest }).withCalls [writeCall s addr value]).withResult (.ok 0)).visible ∧
        t.buf.b0 = ctrl s.cfg true addr ∧ t.buf.b1 = value ∧
        (s.crcEn = true → t.buf.b2 = crcByte (crc5 (ctrl s.cfg true addr) value 0)))

/-- 41_frame.md R84: FUPD, each end of it: the faults of the read, after which no write frame is sent; the write failing
after the read; Ok after writing back exactly `(R & ~mask) | (value & mask)`. -/
def Obligations.FupdFollowsItsRule : Prop :=
  ∀ (addr mask value : Byte) (s : State), s.Ready →
    (addrValid s.cfg addr = false →
      ∃ t, exec (.fupd addr mask value) s = .next t ∧ t.visible = (s.withResult (.fault .config)).visible) ∧
    (addrValid s.cfg addr = true → ∀ (e : ErrToken) (rest : List BusAnswer), s.busAnswers = .ioError e :: rest →
      ∃ t, exec (.fupd addr mask value) s = .next t ∧
        t.visible =
          ((({ s with busAnswers := rest }).withCalls [readCall s addr]).withResult (.fault (.io e))).visible) ∧
    (addrValid s.cfg addr = true → ∀ (rx : Trio) (rest : List BusAnswer), s.busAnswers = .ok rx :: rest →
      readAccepted s addr rx = false →
      ∃ t, exec (.fupd addr mask value) s = .next t ∧
        t.visible =
          ((({ s with busAnswers := rest }).withCalls [readCall s addr]).withResult (.fault .integrity)).visible) ∧
    (addrValid s.cfg addr = true → ∀ (rx : Trio) (e : ErrToken) (rest : List BusAnswer),
      s.busAnswers = .ok rx :: .ioError e :: rest → readAccepted s addr rx = true →
      ∃ t, exec (.fupd addr mask value) s = .next t ∧
        t.visible =
          ((({ s with busAnswers := rest }).withCalls
            [readCall s addr, writeCall s addr ((rx.b1 &&& ~~~mask) ||| (value &&& mask))]).withResult
              (.fault (.io e))).visible) ∧
    (addrValid s.cfg addr = true → ∀ (rx rx' : Trio) (rest : List BusAnswer),
      s.busAnswers = .ok rx :: .ok rx' :: rest → readAccepted s addr rx = true →
      ∃ t, exec (.fupd addr mask value) s = .next t ∧
        t.visible =
          ((({ s with busAnswers := rest }).withCalls
            [readCall s addr, writeCall s addr ((rx.b1 &&& ~~~mask) ||| (value &&& mask))]).withResult
              (.ok 0)).visible)

/-- 41_frame.md R86: in the decided layout, the complete list of calls of each framed operation and of the codec
operations when no fault occurs; none of them touches or reads the mode cache or writes a pin. -/
def Obligations.FramedOperationsAsABusObserverSeesThem : Prop :=
  (∀ (a : Byte) (s : State) (rx : Trio) (rest : List BusAnswer), s.Ready → s.cfg.decidedLayout = true →
    addrValid s.cfg a = true → s.busAnswers = .ok rx :: rest → readAccepted s a rx = true →
    ∃ t, exec (.frd a) s = .next t ∧
      t.calls = s.calls ++ [if s.crcEn then .busXfer [a, 0, 0] 3 true else .busXfer [a, 0] 2 true]) ∧
  (∀ (a v : Byte) (s : State) (rx : Trio) (rest : List BusAnswer), s.Ready → s.cfg.decidedLayout = true →
    addrValid s.cfg a = true → s.busAnswers = .ok rx :: rest →
    ∃ t, exec (.fwr a v) s = .next t ∧
      t.calls = s.calls ++
        [if s.crcEn then .busXfer [0x80 ||| a, v, (crc5 (0x80 ||| a) v 0).setWidth 8] 3 true
         else .busXfer [0x80 ||| a, v] 2 true]) ∧
  (∀ (a mask value : Byte) (s : State) (rx rx' : Trio) (rest : List BusAnswer), s.Ready →
    s.cfg.decidedLayout = true → addrValid s.cfg a = true → s.busAnswers = .ok rx :: .ok rx' :: rest →
    readAccepted s a rx = true →
    ∃ t, exec (.fupd a mask value) s = .next t ∧
      t.calls = s.calls ++
        [if s.crcEn then .busXfer [a, 0, 0] 3 true else .busXfer [a, 0] 2 true,
         if s.crcEn then
          .busXfer [0x80 ||| a, updateByte rx.b1 mask value,
            (crc5 (0x80 ||| a) (updateByte rx.b1 mask value) 0).setWidth 8] 3 true
         else .busXfer [0x80 ||| a, updateByte rx.b1 mask value] 2 true]) ∧
  (∀ (i : Instr) (s t : State), mayFailIo i = false → exec i s = .next t → t.calls = s.calls) ∧
  (∀ (i : Instr) (s t : State), usesPins i = false → exec i s = .next t →
    (∀ c ∈ t.calls.drop s.calls.length, ∃ tx n, c = .busXfer tx n true) ∧
    t.modeCache = s.modeCache ∧ t.pinA0 = s.pinA0 ∧ t.pinA1 = s.pinA1 ∧
    ∀ m, exec i { s with modeCache := m } = .next { t with modeCache := m })

/-! ### The mode-pin multiplexer -/

/-- 42_modepin.md R100: MSEL, each end of it: code 3; a hit, where nothing else happens; a miss with the first or the
second pin write failing; a miss that writes both pins, then the cache, then waits the settling delay. -/
def Obligations.MselFollowsItsRule : Prop :=
  ∀ (code : BitVec 2) (s : State), s.PinReady →
    (modeOfCode code = none →
      ∃ t, exec (.msel code) s = .next t ∧ t.visible = (s.withResult (.fault .config)).visible) ∧
    (∀ m, modeOfCode code = some m → s.modeCache = some m →
      ∃ t, exec (.msel code) s = .next t ∧ t.visible = (s.withResult (.ok 0)).visible ∧ t.buf = s.buf) ∧
    (∀ m, modeOfCode code = some m → s.modeCache ≠ some m →
      (∀ (e : ErrToken) (rest : List PinAnswer), s.pinAnswers = .pinError e :: rest →
        ∃ t, exec (.msel code) s = .next t ∧
          t.visible =
            ((({ s with pinAnswers := rest }).withCalls [.pinSet .a0 (pinsOf s.cfg m).a0]).withResult
              (.fault (.io e))).visible) ∧
      (∀ (e : ErrToken) (rest : List PinAnswer), s.pinAnswers = .ok :: .pinError e :: rest →
        ∃ t, exec (.msel code) s = .next t ∧
          t.visible =
            ((({ s with pinAnswers := rest, pinA0 := (pinsOf s.cfg m).a0 }).withCalls
              [.pinSet .a0 (pinsOf s.cfg m).a0, .pinSet .a1 (pinsOf s.cfg m).a1]).withResult
                (.fault (.io e))).visible) ∧
      (∀ rest : List PinAnswer, s.pinAnswers = .ok :: .ok :: rest →
        ∃ t, exec (.msel code) s = .next t ∧
          t.visible =
            ((({ s with
                pinAnswers := rest
                pinA0 := (pinsOf s.cfg m).a0
                pinA1 := (pinsOf s.cfg m).a1
                modeCache := some m }).withCalls
              [.pinSet .a0 (pinsOf s.cfg m).a0, .pinSet .a1 (pinsOf s.cfg m).a1,
                .delay s.cfg.tModeSettle]).withResult (.ok 0)).visible ∧
          t.buf = s.buf))

/-- 42_modepin.md R104: MSEL M after an MSEL M that ended Ok makes no call, and M stays cached until an operation selects
another mode; after one that ended in IoFault without M cached before, MSEL M writes both pins again. -/
def Obligations.MselIsIdempotentUnderTheCache : Prop :=
  ∀ (code : BitVec 2) (m : Mode) (s t : State), modeOfCode code = some m → exec (.msel code) s = .next t →
    (t.results = s.results ++ [.ok 0] →
      (∃ u, exec (.msel code) t = .next u ∧ u.visible = (t.withResult (.ok 0)).visible) ∧
      ∀ (i : Instr) (t' u : State), t'.modeCache = some m → t'.cfg = t.cfg → exec i t' = .next u →
        (targetMode t'.cfg i = none ∨ targetMode t'.cfg i = some m) → u.modeCache = some m) ∧
    (∀ e, t.results = s.results ++ [.fault (.io e)] →
      s.modeCache ≠ some m ∧ t.modeCache = s.modeCache ∧
      ∀ rest, t.pinAnswers = .ok :: .ok :: rest →
        ∃ u, exec (.msel code) t = .next u ∧ u.results = t.results ++ [.ok 0] ∧
          u.calls = t.calls ++ [.pinSet .a0 (pinsOf s.cfg m).a0, .pinSet .a1 (pinsOf s.cfg m).a1,
            .delay s.cfg.tModeSettle])

/-- 42_modepin.md R101: MRD, each end of it: an invalid address before any activity; a fault of MSEL CONFIG, the same
state and fault as MSEL's own; the first exchange failing, the second not issued; the second failing; the byte received
in the second exchange. -/
def Obligations.MrdFollowsItsRule : Prop :=
  ∀ (addr : Byte) (s : State), s.PinReady →
    (mAddrValid s.cfg addr = false →
      ∃ t, exec (.mrd addr) s = .next t ∧ t.visible = (s.withResult (.fault .config)).visible) ∧
    (mAddrValid s.cfg addr = true →
      (∀ (u : State) (f : OpFault), exec (.msel 0) s = .next u → u.results = s.results ++ [.fault f] →
        exec (.mrd addr) s = .next u) ∧
      (s.selectable .config →
        (∀ (e : ErrToken) (rest : List BusAnswer), s.busAnswers = .ioError e :: rest →
          ∃ t, exec (.mrd addr) s = .next t ∧
            t.visible = ((({ s.afterSelect .config with busAnswers := rest }).withCalls
              [byteCall addr]).withResult (.fault (.io e))).visible) ∧
        (∀ (rx : Trio) (e : ErrToken) (rest : List BusAnswer), s.busAnswers = .ok rx :: .ioError e :: rest →
          ∃ t, exec (.mrd addr) s = .next t ∧
            t.visible = ((({ s.afterSelect .config with busAnswers := rest }).withCalls
              [byteCall addr, byteCall addr]).withResult (.fault (.io e))).visible) ∧
        (∀ (rx rx' : Trio) (rest : List BusAnswer), s.busAnswers = .ok rx :: .ok rx' :: rest →
          ∃ t, exec (.mrd addr) s = .next t ∧
            t.visible = ((({ s.afterSelect .config with busAnswers := rest }).withCalls
              [byteCall addr, byteCall addr]).withResult (.ok (rx'.b0.setWidth 24))).visible ∧
            t.buf = { s.buf with b0 := rx'.b0 })))

/-- 42_modepin.md R102: MWR, each end of it: an invalid address before any activity; a fault of MSEL CONFIG; the first
exchange failing, the value never sent; the second failing; Ok. -/
def Obligations.MwrFollowsItsRule : Prop :=
  ∀ (addr value : Byte) (s : State), s.PinReady →
    (mAddrValid s.cfg addr = false →
      ∃ t, exec (.mwr addr value) s = .next t ∧ t.visible = (s.withResult (.fault .config)).visible) ∧
    (mAddrValid s.cfg addr = true →
      (∀ (u : State) (f : OpFault), exec (.msel 0) s = .next u → u.results = s.results ++ [.fault f] →
        exec (.mwr addr value) s = .next u) ∧
      (s.selectable .config →
        (∀ (e : ErrToken) (rest : List BusAnswer), s.busAnswers = .ioError e :: rest →
          ∃ t, exec (.mwr addr value) s = .next t ∧
            t.visible = ((({ s.afterSelect .config with busAnswers := rest }).withCalls
              [byteCall addr]).withResult (.fault (.io e))).visible) ∧
        (∀ (rx : Trio) (e : ErrToken) (rest : List BusAnswer), s.busAnswers = .ok rx :: .ioError e :: rest →
          ∃ t, exec (.mwr addr value) s = .next t ∧
            t.visible = ((({ s.afterSelect .config with busAnswers := rest }).withCalls
              [byteCall addr, byteCall value]).withResult (.fault (.io e))).visible) ∧
        (∀ (rx rx' : Trio) (rest : List BusAnswer), s.busAnswers = .ok rx :: .ok rx' :: rest →
          ∃ t, exec (.mwr addr value) s = .next t ∧
            t.visible = ((({ s.afterSelect .config with busAnswers := rest }).withCalls
              [byteCall addr, byteCall value]).withResult (.ok 0)).visible ∧
            t.buf = { s.buf with b0 := value })))

/-- 42_modepin.md R103: MCH, each end of it: code 3, CONFIG or RAW_STRAP = 0; a fault of MSEL of the mode; the exchange
failing; the two received bytes, first most significant. -/
def Obligations.MchFollowsItsRule : Prop :=
  ∀ (code : BitVec 2) (s : State), s.PinReady →
    (code = 3 ∨ code = 0 ∨ s.cfg.rawStrap = false →
      ∃ t, exec (.mch code) s = .next t ∧ t.visible = (s.withResult (.fault .config)).visible) ∧
    (∀ m, modeOfCode code = some m → m ≠ .config → s.cfg.rawStrap = true →
      (∀ (u : State) (f : OpFault), exec (.msel code) s = .next u → u.results = s.results ++ [.fault f] →
        exec (.mch code) s = .next u) ∧
      (s.selectable m →
        (∀ (e : ErrToken) (rest : List BusAnswer), s.busAnswers = .ioError e :: rest →
          ∃ t, exec (.mch code) s = .next t ∧
            t.visible = ((({ s.afterSelect m with busAnswers := rest }).withCalls
              [.busXfer [0, 0] 2 true]).withResult (.fault (.io e))).visible) ∧
        (∀ (rx : Trio) (rest : List BusAnswer), s.busAnswers = .ok rx :: rest →
          ∃ t, exec (.mch code) s = .next t ∧
            t.visible = ((({ s.afterSelect m with busAnswers := rest }).withCalls
              [.busXfer [0, 0] 2 true]).withResult (.ok (channelValue rx.b0 rx.b1))).visible ∧
            t.buf = { s.buf with b0 := rx.b0, b1 := rx.b1 })))

/-- 42_modepin.md R106: the complete list of primitive calls of each mode-pin operation when no fault occurs, with its
completion; `crc_en` plays no part in any of them, and none uses the CRC unit. -/
def Obligations.ModePinOperationsAsAnObserverSeesThem : Prop :=
  ∀ s : State, s.PinReady →
    (∀ code m, modeOfCode code = some m → s.selectable m →
      ∃ t, exec (.msel code) s = .next t ∧ t.busy = false ∧ t.results = s.results ++ [.ok 0] ∧
        t.calls = s.calls ++ selectCalls s m) ∧
    (∀ (a : Byte) (rx rx' : Trio) (rest : List BusAnswer), mAddrValid s.cfg a = true → s.selectable .config →
      s.busAnswers = .ok rx :: .ok rx' :: rest →
      ∃ t, exec (.mrd a) s = .next t ∧ t.busy = false ∧ t.results = s.results ++ [.ok (byteValue rx'.b0)] ∧
        t.calls = s.calls ++ selectCalls s .config ++ [.busXfer [a] 1 true, .busXfer [a] 1 true]) ∧
    (∀ (a v : Byte) (rx rx' : Trio) (rest : List BusAnswer), mAddrValid s.cfg a = true → s.selectable .config →
      s.busAnswers = .ok rx :: .ok rx' :: rest →
      ∃ t, exec (.mwr a v) s = .next t ∧ t.busy = false ∧ t.results = s.results ++ [.ok 0] ∧
        t.calls = s.calls ++ selectCalls s .config ++ [.busXfer [a] 1 true, .busXfer [v] 1 true]) ∧
    (∀ code m (rx : Trio) (rest : List BusAnswer), channelOf s.cfg code = some m → s.selectable m →
      s.busAnswers = .ok rx :: rest →
      ∃ t, exec (.mch code) s = .next t ∧ t.busy = false ∧
        t.results = s.results ++ [.ok (channelValue rx.b0 rx.b1)] ∧
        t.calls = s.calls ++ selectCalls s m ++ [.busXfer [0, 0] 2 true]) ∧
    (∀ (i : Instr) (t : State) (b : Bool), usesPins i = true → exec i s = .next t →
      exec i { s with crcEn := b } = .next { t with crcEn := b } ∧
        t.crcC = s.crcC ∧ t.crcR = s.crcR ∧ t.crcK = s.crcK)

/-- 42_modepin.md R105: after an operation the cache is what it was or the operation's own target, with both pins at the
target's levels; a pin latch is what it was or the target's level; a bus failure after the selection leaves the new mode
and the new levels. Nothing is put back. -/
def Obligations.CacheAndPinsAreNeverRolledBack : Prop :=
  (∀ (i : Instr) (s t : State), exec i s = .next t →
    (t.modeCache = s.modeCache ∨
      ∃ m, targetMode s.cfg i = some m ∧ t.modeCache = some m ∧
        t.pinA0 = (pinsOf s.cfg m).a0 ∧ t.pinA1 = (pinsOf s.cfg m).a1) ∧
    (t.pinA0 = s.pinA0 ∨ ∃ m, targetMode s.cfg i = some m ∧ t.pinA0 = (pinsOf s.cfg m).a0) ∧
    (t.pinA1 = s.pinA1 ∨ ∃ m, targetMode s.cfg i = some m ∧ t.pinA1 = (pinsOf s.cfg m).a1)) ∧
  (∀ (i : Instr) (s t : State) (m : Mode) (e : ErrToken) (rest : List BusAnswer), s.PinReady →
    targetMode s.cfg i = some m → (∀ code, i ≠ .msel code) → s.selectable m → s.busAnswers = .ioError e :: rest →
    exec i s = .next t →
      t.results = s.results ++ [.fault (.io e)] ∧ t.busAnswers = rest ∧ t.modeCache = some m ∧
      t.pinA0 = (s.afterSelect m).pinA0 ∧ t.pinA1 = (s.afterSelect m).pinA1)

/-- 70_reset_and_hazards.md R149: after a selection of another mode whose second pin write failed, the pins hold the new
A0 and the old A1, and a selection of the old, still cached mode is a hit that writes nothing. Selecting a mode other
than the cached one and then the wanted one writes both pins twice and makes cache and pins agree. -/
def Obligations.PinFaultHazardAndItsRecovery : Prop :=
  (∀ (s : State) (old new : BitVec 2) (mo mn : Mode) (e : ErrToken) (rest : List PinAnswer), s.PinReady →
    modeOfCode old = some mo → modeOfCode new = some mn → mn ≠ mo → s.modeCache = some mo → s.agrees →
    s.pinAnswers = .ok :: .pinError e :: rest →
    ∃ t u, exec (.msel new) s = .next t ∧ exec (.msel old) t = .next u ∧
      t.results = s.results ++ [.fault (.io e)] ∧ u.results = t.results ++ [.ok 0] ∧ u.calls = t.calls ∧
      u.modeCache = some mo ∧ u.pinA0 = (pinsOf s.cfg mn).a0 ∧ u.pinA1 = (pinsOf s.cfg mo).a1) ∧
  (∀ (s : State) (other wanted : BitVec 2) (mo mw : Mode) (rest : List PinAnswer), s.PinReady →
    modeOfCode other = some mo → modeOfCode wanted = some mw → s.modeCache ≠ some mo → mw ≠ mo →
    s.pinAnswers = .ok :: .ok :: .ok :: .ok :: rest →
    ∃ t u, exec (.msel other) s = .next t ∧ exec (.msel wanted) t = .next u ∧
      u.results = s.results ++ [.ok 0, .ok 0] ∧ u.modeCache = some mw ∧ u.agrees ∧
      u.calls = s.calls ++
        [.pinSet .a0 (pinsOf s.cfg mo).a0, .pinSet .a1 (pinsOf s.cfg mo).a1, .delay s.cfg.tModeSettle,
          .pinSet .a0 (pinsOf s.cfg mw).a0, .pinSet .a1 (pinsOf s.cfg mw).a1, .delay s.cfg.tModeSettle])

/-- 10_state.md R15, 70_reset_and_hazards.md R145: while no pin write fails, every operation that does not wait for a
pin leaves cache and pins in agreement, so the pins show the wanted mode before every exchange. -/
def Obligations.CacheAndPinsAgreeWhileNoPinFails : Prop :=
  ∀ (i : Instr) (s t : State), s.agrees → (∀ a ∈ s.pinAnswers, a = .ok) → exec i s = .next t →
    t.seqStep.onPin = false → t.agrees

/-! ### Faults -/

/-- 60_exceptions.md R123: an operation ends in ConfigFault exactly for the operand causes listed there, whatever the
primitives would answer, and then it has touched neither the bus, nor the pins, nor any state of the block. -/
def Obligations.ConfigFaultExactlyForItsCausesAndTouchesNothing : Prop :=
  ∀ (i : Instr) (s : State), s.Accepts i →
    (configCause s.cfg i = true ↔ ∃ t, exec i s = .next t ∧ t.results = s.results ++ [.fault .config]) ∧
    ∀ t, exec i s = .next t → t.results = s.results ++ [.fault .config] →
      t = { s with seqStep := t.seqStep, results := s.results ++ [.fault .config] }

/-- 60_exceptions.md R125: which operation can end in which fault, and none in ResourceFault (R124). -/
def Obligations.WhichOperationCanEndInWhichFault : Prop :=
  ∀ (i : Instr) (s t : State) (f : OpFault), exec i s = .next t → t.results = s.results ++ [.fault f] →
    match f with
    | .config => configCause s.cfg i = true
    | .io _ => mayFailIo i = true
    | .integrity => mayFailIntegrity i = true ∧ s.crcEn = true
    | .resource => False

/-- 60_exceptions.md R121: the token of an IoFault is one the primitive gave, unchanged: the operation has taken an
answer with that token, and no answer after it. -/
def Obligations.IoFaultCarriesThePrimitivesToken : Prop :=
  ∀ (i : Instr) (s t : State) (e : ErrToken), exec i s = .next t → t.results = s.results ++ [.fault (.io e)] →
    (∃ before, s.busAnswers = before ++ .ioError e :: t.busAnswers ∧ ∀ a ∈ before, ∃ rx, a = .ok rx) ∨
    (∃ before, s.pinAnswers = before ++ .pinError e :: t.pinAnswers ∧ (∀ a ∈ before, a = .ok) ∧
      t.busAnswers = s.busAnswers)

/-- 60_exceptions.md R128: when a fault ends an operation the block is at once ready for the next, whichever it is, and
nothing of the fault is recorded but its delivery. -/
def Obligations.AfterAFaultTheBlockIsReady : Prop :=
  ∀ (i j : Instr) (s t : State) (f : OpFault), exec i s = .next t → t.results = s.results ++ [.fault f] →
    t.Ready ∧ (s.Accepts j → ∃ u, exec j t = .next u)

/-! ### Waiting for a primitive -/

/-- 70_reset_and_hazards.md R151: an operation one of whose primitive calls is not answered does not end: `busy` is 1, no
result is delivered, and just the calls up to that one are issued. Clause by clause the call without an answer is the
first pin write of a miss, its second, the first exchange (after the mode selection, where the operation contains one),
the second exchange (of FUPD after an accepted read, of MRD and of MWR). Last: a waiting operation given no answer stays
so however many steps are taken; that it then stays in one and the same state is the model's way of waiting (log 5). -/
def Obligations.AnOperationNeverAnsweredStaysBusy : Prop :=
  (∀ (i : Instr) (s : State), s.Accepts i → configCause s.cfg i = false →
    (∀ m, targetMode s.cfg i = some m → s.modeCache ≠ some m → s.pinAnswers = [] →
      ∃ t, exec i s = .next t ∧ t.seqStep.onPin = true ∧
        t.visible = (({ s with busy := true }).withCalls [.pinSet .a0 (pinsOf s.cfg m).a0]).visible) ∧
    (∀ m, targetMode s.cfg i = some m → s.modeCache ≠ some m → s.pinAnswers = [.ok] →
      ∃ t, exec i s = .next t ∧ t.seqStep.onPin = true ∧
        t.visible =
          (({ s with busy := true, pinAnswers := [], pinA0 := (pinsOf s.cfg m).a0 }).withCalls
            [.pinSet .a0 (pinsOf s.cfg m).a0, .pinSet .a1 (pinsOf s.cfg m).a1]).visible) ∧
    (∀ c, firstExchange s i = some c → s.selectsOk i → s.busAnswers = [] →
      ∃ t, exec i s = .next t ∧ t.seqStep.onBus = true ∧
        t.visible = (({ s.beforeExchange i with busy := true }).withCalls [c]).visible) ∧
    (∀ (rx : Trio) (c d : Call), firstExchange s i = some c → secondExchange s rx i = some d → s.selectsOk i →
      s.busAnswers = [.ok rx] →
      ∃ t, exec i s = .next t ∧ t.seqStep.onBus = true ∧
        t.visible = (({ s.beforeExchange i with busy := true, busAnswers := [] }).withCalls [c, d]).visible)) ∧
  ∀ (i : Instr) (s t : State), exec i s = .next t → t.busy = true →
    ∀ k : Nat, Host.Core.run Sys2Proof.core k t = .next t

/-- 70_reset_and_hazards.md R151, 10_state.md R16 (the model's way of waiting, log 5): an operation that waits for the
bus and is answered later goes on exactly as if the answers had been there from its start. -/
def Obligations.LateBusAnswersChangeNothing : Prop :=
  ∀ (i : Instr) (s t : State) (more : List BusAnswer), exec i s = .next t → t.busy = true → t.seqStep.onBus = true →
    step { t with busAnswers := more } = exec i { s with busAnswers := s.busAnswers ++ more }

/-- 70_reset_and_hazards.md R151, 10_state.md R16 (log 5): the same of an operation that waits for a pin write. -/
def Obligations.LatePinAnswersChangeNothing : Prop :=
  ∀ (i : Instr) (s t : State) (more : List PinAnswer), exec i s = .next t → t.busy = true → t.seqStep.onPin = true →
    step { t with pinAnswers := more } = exec i { s with pinAnswers := s.pinAnswers ++ more }

/-! ### Invariants of the machine -/

/-- 70_reset_and_hazards.md R141: no step changes `crc_en` or the frame length. That none changes a parameter follows
00_scope.md section 5 and 20_memory.md R44, and is said of the model's field `cfg` (log 13). -/
def Obligations.CrcEnAndParametersNeverChange : Prop :=
  ∀ s t : State, step s = .next t → t.crcEn = s.crcEn ∧ t.frameLen = s.frameLen ∧ t.cfg = s.cfg

/-- The invariant holds of every instance just constructed with parameters the spec admits, and so of the reset state. -/
def Obligations.InvariantHoldsAtConstruction : Prop :=
  (∀ (cfg : Params) (crcEn : Bool), cfg.wf = true → (State.construct cfg crcEn).Inv) ∧ State.reset.Inv

/-- Every step keeps the invariant: the sequencer waits only where an operation runs, at a step whose call is the last
issued and whose mode is in the cache (20_memory.md R39, 70_reset_and_hazards.md R145), every exchange is exact
(20_memory.md R37), and no fault is delivered that the block cannot raise (60_exceptions.md R122, R124). -/
def Obligations.EveryStepKeepsTheInvariant : Prop :=
  ∀ s t : State, s.Inv → step s = .next t → t.Inv

/-- With the invariant, no step stops the machine by a fault (60_exceptions.md R128: a fault is a result). -/
def Obligations.InvariantStatesNeverFault : Prop :=
  ∀ (s : State) (f : Fault), s.Inv → step s ≠ .fault f

/-- 10_state.md R12, R13 (their content between operations is unspecified): no operation depends on what the buffer, the
CRC working registers or the sequencer's step hold when it starts. -/
def Obligations.UnspecifiedRegistersAreNeverReadBeforeWritten : Prop :=
  ∀ (i : Instr) (s s' t : State), s.visible = s'.visible → exec i s = .next t →
    ∃ t', exec i s' = .next t' ∧ t.visible = t'.visible ∧ t.seqStep = t'.seqStep

/-- 10_state.md R15, R17: no operation reads the pin latches, the results or the calls of earlier operations: with
others in their place it makes the same new calls, delivers the same new results, and leaves everything else alike. -/
def Obligations.PinsAndEarlierResultsAreNeverRead : Prop :=
  ∀ (i : Instr) (s t : State) (a0 a1 : Bool) (cs : List Call) (rs : List Result), exec i s = .next t →
    ∃ (t' : State) (newCalls : List Call) (newResults : List Result),
      exec i { s with pinA0 := a0, pinA1 := a1, calls := cs, results := rs } = .next t' ∧
      t.calls = s.calls ++ newCalls ∧ t'.calls = cs ++ newCalls ∧
      t.results = s.results ++ newResults ∧ t'.results = rs ++ newResults ∧
      t' = { t with pinA0 := t'.pinA0, pinA1 := t'.pinA1, calls := t'.calls, results := t'.results }
end

