-- ==== Sys2Proof/Laws/Crc.lean ====
section
/-! SUPPORT. Small lemmas of the CRC codec: one reduction, one step of the machine, the word of three bytes. -/

namespace Sys2Proof.Machine

open Sys2Proof

/-- A reduced register has its top bit clear, so the next shift drops nothing (40_crc5.md R70). -/
theorem reduce_top (x : BitVec 6) : (reduce x).getLsbD 5 = false := by
  revert x
  decide +kernel

/-- Reduction is linear over GF(2). -/
theorem reduce_xor (x y : BitVec 6) : reduce (x ^^^ y) = reduce x ^^^ reduce y := by
  revert x y
  decide +kernel

/-- A loop step is linear over GF(2). -/
theorem shiftIn_xor (x y : BitVec 6) (a b : Bool) : shiftIn (x ^^^ y) (a ^^ b) = shiftIn x a ^^^ shiftIn y b := by
  simp only [shiftIn, ← reduce_xor]
  congr 1
  revert x y a b
  decide +kernel

/-- The last of `n + 1` steps of the machine. -/
theorem crcRun_succ (n : Nat) (u : CrcRegs) : crcRun (n + 1) u = crcStep (crcRun n u) := by
  induction n generalizing u with
  | zero => rfl
  | succ n ih => exact ih (crcStep u)

/-- The machine never writes the composite. -/
theorem crcRun_c (n : Nat) (u : CrcRegs) : (crcRun n u).c = u.c := by
  induction n generalizing u with
  | zero => rfl
  | succ n ih => exact ih (crcStep u)

/-- The step counter counts the steps. -/
theorem crcRun_k (n : Nat) (u : CrcRegs) : (crcRun n u).k = u.k + BitVec.ofNat 5 n := by
  induction n generalizing u with
  | zero => simp [crcRun]
  | succ n ih =>
    rw [crcRun, ih]
    simp only [crcStep]
    bv_omega

/-- The word of a word's three bytes is the word. -/
theorem word24_of_bytes (w : BitVec 24) :
    word24 (w.extractLsb' 16 8) (w.extractLsb' 8 8) (w.extractLsb' 0 8) = w := by
  apply BitVec.eq_of_getLsbD_eq
  intro i hi
  interval_cases i <;> simp [word24]

end Sys2Proof.Machine
end

