-- ==== Sys2Proof/Laws/State.lean ====
section
/-! SUPPORT. One lemma per field per update of the state: what a named update leaves in each field. -/

namespace Sys2Proof.Machine

open Sys2Proof

/-! ### State.setBuf -/

@[simp] theorem State.setBuf_cfg (s : State) (b : Trio) : (s.setBuf b).cfg = s.cfg := rfl
@[simp] theorem State.setBuf_crcEn (s : State) (b : Trio) : (s.setBuf b).crcEn = s.crcEn := rfl
@[simp] theorem State.setBuf_buf (s : State) (b : Trio) : (s.setBuf b).buf = b := rfl
@[simp] theorem State.setBuf_crcC (s : State) (b : Trio) : (s.setBuf b).crcC = s.crcC := rfl
@[simp] theorem State.setBuf_crcR (s : State) (b : Trio) : (s.setBuf b).crcR = s.crcR := rfl
@[simp] theorem State.setBuf_crcK (s : State) (b : Trio) : (s.setBuf b).crcK = s.crcK := rfl
@[simp] theorem State.setBuf_modeCache (s : State) (b : Trio) : (s.setBuf b).modeCache = s.modeCache := rfl
@[simp] theorem State.setBuf_pinA0 (s : State) (b : Trio) : (s.setBuf b).pinA0 = s.pinA0 := rfl
@[simp] theorem State.setBuf_pinA1 (s : State) (b : Trio) : (s.setBuf b).pinA1 = s.pinA1 := rfl
@[simp] theorem State.setBuf_busy (s : State) (b : Trio) : (s.setBuf b).busy = s.busy := rfl
@[simp] theorem State.setBuf_seqStep (s : State) (b : Trio) : (s.setBuf b).seqStep = s.seqStep := rfl
@[simp] theorem State.setBuf_released (s : State) (b : Trio) : (s.setBuf b).released = s.released := rfl
@[simp] theorem State.setBuf_cmds (s : State) (b : Trio) : (s.setBuf b).cmds = s.cmds := rfl
@[simp] theorem State.setBuf_busAnswers (s : State) (b : Trio) : (s.setBuf b).busAnswers = s.busAnswers := rfl
@[simp] theorem State.setBuf_pinAnswers (s : State) (b : Trio) : (s.setBuf b).pinAnswers = s.pinAnswers := rfl
@[simp] theorem State.setBuf_calls (s : State) (b : Trio) : (s.setBuf b).calls = s.calls := rfl
@[simp] theorem State.setBuf_results (s : State) (b : Trio) : (s.setBuf b).results = s.results := rfl

/-! ### State.setBuf0 -/

@[simp] theorem State.setBuf0_cfg (s : State) (b : Byte) : (s.setBuf0 b).cfg = s.cfg := rfl
@[simp] theorem State.setBuf0_crcEn (s : State) (b : Byte) : (s.setBuf0 b).crcEn = s.crcEn := rfl
@[simp] theorem State.setBuf0_buf (s : State) (b : Byte) : (s.setBuf0 b).buf = { s.buf with b0 := b } := rfl
@[simp] theorem State.setBuf0_crcC (s : State) (b : Byte) : (s.setBuf0 b).crcC = s.crcC := rfl
@[simp] theorem State.setBuf0_crcR (s : State) (b : Byte) : (s.setBuf0 b).crcR = s.crcR := rfl
@[simp] theorem State.setBuf0_crcK (s : State) (b : Byte) : (s.setBuf0 b).crcK = s.crcK := rfl
@[simp] theorem State.setBuf0_modeCache (s : State) (b : Byte) : (s.setBuf0 b).modeCache = s.modeCache := rfl
@[simp] theorem State.setBuf0_pinA0 (s : State) (b : Byte) : (s.setBuf0 b).pinA0 = s.pinA0 := rfl
@[simp] theorem State.setBuf0_pinA1 (s : State) (b : Byte) : (s.setBuf0 b).pinA1 = s.pinA1 := rfl
@[simp] theorem State.setBuf0_busy (s : State) (b : Byte) : (s.setBuf0 b).busy = s.busy := rfl
@[simp] theorem State.setBuf0_seqStep (s : State) (b : Byte) : (s.setBuf0 b).seqStep = s.seqStep := rfl
@[simp] theorem State.setBuf0_released (s : State) (b : Byte) : (s.setBuf0 b).released = s.released := rfl
@[simp] theorem State.setBuf0_cmds (s : State) (b : Byte) : (s.setBuf0 b).cmds = s.cmds := rfl
@[simp] theorem State.setBuf0_busAnswers (s : State) (b : Byte) : (s.setBuf0 b).busAnswers = s.busAnswers := rfl
@[simp] theorem State.setBuf0_pinAnswers (s : State) (b : Byte) : (s.setBuf0 b).pinAnswers = s.pinAnswers := rfl
@[simp] theorem State.setBuf0_calls (s : State) (b : Byte) : (s.setBuf0 b).calls = s.calls := rfl
@[simp] theorem State.setBuf0_results (s : State) (b : Byte) : (s.setBuf0 b).results = s.results := rfl

/-! ### State.loadFrame -/

@[simp] theorem State.loadFrame_cfg (s : State) (b0 b1 b2 : Byte) : (s.loadFrame b0 b1 b2).cfg = s.cfg := rfl
@[simp] theorem State.loadFrame_crcEn (s : State) (b0 b1 b2 : Byte) : (s.loadFrame b0 b1 b2).crcEn = s.crcEn := rfl
@[simp] theorem State.loadFrame_buf (s : State) (b0 b1 b2 : Byte) : (s.loadFrame b0 b1 b2).buf = ⟨b0, b1, if s.crcEn then b2 else s.buf.b2⟩ := rfl
@[simp] theorem State.loadFrame_crcC (s : State) (b0 b1 b2 : Byte) : (s.loadFrame b0 b1 b2).crcC = s.crcC := rfl
@[simp] theorem State.loadFrame_crcR (s : State) (b0 b1 b2 : Byte) : (s.loadFrame b0 b1 b2).crcR = s.crcR := rfl
@[simp] theorem State.loadFrame_crcK (s : State) (b0 b1 b2 : Byte) : (s.loadFrame b0 b1 b2).crcK = s.crcK := rfl
@[simp] theorem State.loadFrame_modeCache (s : State) (b0 b1 b2 : Byte) : (s.loadFrame b0 b1 b2).modeCache = s.modeCache := rfl
@[simp] theorem State.loadFrame_pinA0 (s : State) (b0 b1 b2 : Byte) : (s.loadFrame b0 b1 b2).pinA0 = s.pinA0 := rfl
@[simp] theorem State.loadFrame_pinA1 (s : State) (b0 b1 b2 : Byte) : (s.loadFrame b0 b1 b2).pinA1 = s.pinA1 := rfl
@[simp] theorem State.loadFrame_busy (s : State) (b0 b1 b2 : Byte) : (s.loadFrame b0 b1 b2).busy = s.busy := rfl
@[simp] theorem State.loadFrame_seqStep (s : State) (b0 b1 b2 : Byte) : (s.loadFrame b0 b1 b2).seqStep = s.seqStep := rfl
@[simp] theorem State.loadFrame_released (s : State) (b0 b1 b2 : Byte) : (s.loadFrame b0 b1 b2).released = s.released := rfl
@[simp] theorem State.loadFrame_cmds (s : State) (b0 b1 b2 : Byte) : (s.loadFrame b0 b1 b2).cmds = s.cmds := rfl
@[simp] theorem State.loadFrame_busAnswers (s : State) (b0 b1 b2 : Byte) : (s.loadFrame b0 b1 b2).busAnswers = s.busAnswers := rfl
@[simp] theorem State.loadFrame_pinAnswers (s : State) (b0 b1 b2 : Byte) : (s.loadFrame b0 b1 b2).pinAnswers = s.pinAnswers := rfl
@[simp] theorem State.loadFrame_calls (s : State) (b0 b1 b2 : Byte) : (s.loadFrame b0 b1 b2).calls = s.calls := rfl
@[simp] theorem State.loadFrame_results (s : State) (b0 b1 b2 : Byte) : (s.loadFrame b0 b1 b2).results = s.results := rfl

/-! ### State.setCrc -/

@[simp] theorem State.setCrc_cfg (s : State) (u : CrcRegs) : (s.setCrc u).cfg = s.cfg := rfl
@[simp] theorem State.setCrc_crcEn (s : State) (u : CrcRegs) : (s.setCrc u).crcEn = s.crcEn := rfl
@[simp] theorem State.setCrc_buf (s : State) (u : CrcRegs) : (s.setCrc u).buf = s.buf := rfl
@[simp] theorem State.setCrc_crcC (s : State) (u : CrcRegs) : (s.setCrc u).crcC = u.c := rfl
@[simp] theorem State.setCrc_crcR (s : State) (u : CrcRegs) : (s.setCrc u).crcR = u.r := rfl
@[simp] theorem State.setCrc_crcK (s : State) (u : CrcRegs) : (s.setCrc u).crcK = u.k := rfl
@[simp] theorem State.setCrc_modeCache (s : State) (u : CrcRegs) : (s.setCrc u).modeCache = s.modeCache := rfl
@[simp] theorem State.setCrc_pinA0 (s : State) (u : CrcRegs) : (s.setCrc u).pinA0 = s.pinA0 := rfl
@[simp] theorem State.setCrc_pinA1 (s : State) (u : CrcRegs) : (s.setCrc u).pinA1 = s.pinA1 := rfl
@[simp] theorem State.setCrc_busy (s : State) (u : CrcRegs) : (s.setCrc u).busy = s.busy := rfl
@[simp] theorem State.setCrc_seqStep (s : State) (u : CrcRegs) : (s.setCrc u).seqStep = s.seqStep := rfl
@[simp] theorem State.setCrc_released (s : State) (u : CrcRegs) : (s.setCrc u).released = s.released := rfl
@[simp] theorem State.setCrc_cmds (s : State) (u : CrcRegs) : (s.setCrc u).cmds = s.cmds := rfl
@[simp] theorem State.setCrc_busAnswers (s : State) (u : CrcRegs) : (s.setCrc u).busAnswers = s.busAnswers := rfl
@[simp] theorem State.setCrc_pinAnswers (s : State) (u : CrcRegs) : (s.setCrc u).pinAnswers = s.pinAnswers := rfl
@[simp] theorem State.setCrc_calls (s : State) (u : CrcRegs) : (s.setCrc u).calls = s.calls := rfl
@[simp] theorem State.setCrc_results (s : State) (u : CrcRegs) : (s.setCrc u).results = s.results := rfl

/-! ### State.runCrc -/

@[simp] theorem State.runCrc_cfg (s : State) (h m l : Byte) : (s.runCrc h m l).cfg = s.cfg := State.setCrc_cfg _ _
@[simp] theorem State.runCrc_crcEn (s : State) (h m l : Byte) : (s.runCrc h m l).crcEn = s.crcEn := State.setCrc_crcEn _ _
@[simp] theorem State.runCrc_buf (s : State) (h m l : Byte) : (s.runCrc h m l).buf = s.buf := State.setCrc_buf _ _
@[simp] theorem State.runCrc_crcC (s : State) (h m l : Byte) : (s.runCrc h m l).crcC = (crcEvaluate h m l).c := State.setCrc_crcC _ _
@[simp] theorem State.runCrc_crcR (s : State) (h m l : Byte) : (s.runCrc h m l).crcR = (crcEvaluate h m l).r := State.setCrc_crcR _ _
@[simp] theorem State.runCrc_crcK (s : State) (h m l : Byte) : (s.runCrc h m l).crcK = (crcEvaluate h m l).k := State.setCrc_crcK _ _
@[simp] theorem State.runCrc_modeCache (s : State) (h m l : Byte) : (s.runCrc h m l).modeCache = s.modeCache := State.setCrc_modeCache _ _
@[simp] theorem State.runCrc_pinA0 (s : State) (h m l : Byte) : (s.runCrc h m l).pinA0 = s.pinA0 := State.setCrc_pinA0 _ _
@[simp] theorem State.runCrc_pinA1 (s : State) (h m l : Byte) : (s.runCrc h m l).pinA1 = s.pinA1 := State.setCrc_pinA1 _ _
@[simp] theorem State.runCrc_busy (s : State) (h m l : Byte) : (s.runCrc h m l).busy = s.busy := State.setCrc_busy _ _
@[simp] theorem State.runCrc_seqStep (s : State) (h m l : Byte) : (s.runCrc h m l).seqStep = s.seqStep := State.setCrc_seqStep _ _
@[simp] theorem State.runCrc_released (s : State) (h m l : Byte) : (s.runCrc h m l).released = s.released := State.setCrc_released _ _
@[simp] theorem State.runCrc_cmds (s : State) (h m l : Byte) : (s.runCrc h m l).cmds = s.cmds := State.setCrc_cmds _ _
@[simp] theorem State.runCrc_busAnswers (s : State) (h m l : Byte) : (s.runCrc h m l).busAnswers = s.busAnswers := State.setCrc_busAnswers _ _
@[simp] theorem State.runCrc_pinAnswers (s : State) (h m l : Byte) : (s.runCrc h m l).pinAnswers = s.pinAnswers := State.setCrc_pinAnswers _ _
@[simp] theorem State.runCrc_calls (s : State) (h m l : Byte) : (s.runCrc h m l).calls = s.calls := State.setCrc_calls _ _
@[simp] theorem State.runCrc_results (s : State) (h m l : Byte) : (s.runCrc h m l).results = s.results := State.setCrc_results _ _

/-! ### State.setCache -/

@[simp] theorem State.setCache_cfg (s : State) (m : Mode) : (s.setCache m).cfg = s.cfg := rfl
@[simp] theorem State.setCache_crcEn (s : State) (m : Mode) : (s.setCache m).crcEn = s.crcEn := rfl
@[simp] theorem State.setCache_buf (s : State) (m : Mode) : (s.setCache m).buf = s.buf := rfl
@[simp] theorem State.setCache_crcC (s : State) (m : Mode) : (s.setCache m).crcC = s.crcC := rfl
@[simp] theorem State.setCache_crcR (s : State) (m : Mode) : (s.setCache m).crcR = s.crcR := rfl
@[simp] theorem State.setCache_crcK (s : State) (m : Mode) : (s.setCache m).crcK = s.crcK := rfl
@[simp] theorem State.setCache_modeCache (s : State) (m : Mode) : (s.setCache m).modeCache = some m := rfl
@[simp] theorem State.setCache_pinA0 (s : State) (m : Mode) : (s.setCache m).pinA0 = s.pinA0 := rfl
@[simp] theorem State.setCache_pinA1 (s : State) (m : Mode) : (s.setCache m).pinA1 = s.pinA1 := rfl
@[simp] theorem State.setCache_busy (s : State) (m : Mode) : (s.setCache m).busy = s.busy := rfl
@[simp] theorem State.setCache_seqStep (s : State) (m : Mode) : (s.setCache m).seqStep = s.seqStep := rfl
@[simp] theorem State.setCache_released (s : State) (m : Mode) : (s.setCache m).released = s.released := rfl
@[simp] theorem State.setCache_cmds (s : State) (m : Mode) : (s.setCache m).cmds = s.cmds := rfl
@[simp] theorem State.setCache_busAnswers (s : State) (m : Mode) : (s.setCache m).busAnswers = s.busAnswers := rfl
@[simp] theorem State.setCache_pinAnswers (s : State) (m : Mode) : (s.setCache m).pinAnswers = s.pinAnswers := rfl
@[simp] theorem State.setCache_calls (s : State) (m : Mode) : (s.setCache m).calls = s.calls := rfl
@[simp] theorem State.setCache_results (s : State) (m : Mode) : (s.setCache m).results = s.results := rfl

/-! ### State.setPinA0 -/

@[simp] theorem State.setPinA0_cfg (s : State) (v : Bool) : (s.setPinA0 v).cfg = s.cfg := rfl
@[simp] theorem State.setPinA0_crcEn (s : State) (v : Bool) : (s.setPinA0 v).crcEn = s.crcEn := rfl
@[simp] theorem State.setPinA0_buf (s : State) (v : Bool) : (s.setPinA0 v).buf = s.buf := rfl
@[simp] theorem State.setPinA0_crcC (s : State) (v : Bool) : (s.setPinA0 v).crcC = s.crcC := rfl
@[simp] theorem State.setPinA0_crcR (s : State) (v : Bool) : (s.setPinA0 v).crcR = s.crcR := rfl
@[simp] theorem State.setPinA0_crcK (s : State) (v : Bool) : (s.setPinA0 v).crcK = s.crcK := rfl
@[simp] theorem State.setPinA0_modeCache (s : State) (v : Bool) : (s.setPinA0 v).modeCache = s.modeCache := rfl
@[simp] theorem State.setPinA0_pinA0 (s : State) (v : Bool) : (s.setPinA0 v).pinA0 = v := rfl
@[simp] theorem State.setPinA0_pinA1 (s : State) (v : Bool) : (s.setPinA0 v).pinA1 = s.pinA1 := rfl
@[simp] theorem State.setPinA0_busy (s : State) (v : Bool) : (s.setPinA0 v).busy = s.busy := rfl
@[simp] theorem State.setPinA0_seqStep (s : State) (v : Bool) : (s.setPinA0 v).seqStep = s.seqStep := rfl
@[simp] theorem State.setPinA0_released (s : State) (v : Bool) : (s.setPinA0 v).released = s.released := rfl
@[simp] theorem State.setPinA0_cmds (s : State) (v : Bool) : (s.setPinA0 v).cmds = s.cmds := rfl
@[simp] theorem State.setPinA0_busAnswers (s : State) (v : Bool) : (s.setPinA0 v).busAnswers = s.busAnswers := rfl
@[simp] theorem State.setPinA0_pinAnswers (s : State) (v : Bool) : (s.setPinA0 v).pinAnswers = s.pinAnswers := rfl
@[simp] theorem State.setPinA0_calls (s : State) (v : Bool) : (s.setPinA0 v).calls = s.calls := rfl
@[simp] theorem State.setPinA0_results (s : State) (v : Bool) : (s.setPinA0 v).results = s.results := rfl

/-! ### State.setPinA1 -/

@[simp] theorem State.setPinA1_cfg (s : State) (v : Bool) : (s.setPinA1 v).cfg = s.cfg := rfl
@[simp] theorem State.setPinA1_crcEn (s : State) (v : Bool) : (s.setPinA1 v).crcEn = s.crcEn := rfl
@[simp] theorem State.setPinA1_buf (s : State) (v : Bool) : (s.setPinA1 v).buf = s.buf := rfl
@[simp] theorem State.setPinA1_crcC (s : State) (v : Bool) : (s.setPinA1 v).crcC = s.crcC := rfl
@[simp] theorem State.setPinA1_crcR (s : State) (v : Bool) : (s.setPinA1 v).crcR = s.crcR := rfl
@[simp] theorem State.setPinA1_crcK (s : State) (v : Bool) : (s.setPinA1 v).crcK = s.crcK := rfl
@[simp] theorem State.setPinA1_modeCache (s : State) (v : Bool) : (s.setPinA1 v).modeCache = s.modeCache := rfl
@[simp] theorem State.setPinA1_pinA0 (s : State) (v : Bool) : (s.setPinA1 v).pinA0 = s.pinA0 := rfl
@[simp] theorem State.setPinA1_pinA1 (s : State) (v : Bool) : (s.setPinA1 v).pinA1 = v := rfl
@[simp] theorem State.setPinA1_busy (s : State) (v : Bool) : (s.setPinA1 v).busy = s.busy := rfl
@[simp] theorem State.setPinA1_seqStep (s : State) (v : Bool) : (s.setPinA1 v).seqStep = s.seqStep := rfl
@[simp] theorem State.setPinA1_released (s : State) (v : Bool) : (s.setPinA1 v).released = s.released := rfl
@[simp] theorem State.setPinA1_cmds (s : State) (v : Bool) : (s.setPinA1 v).cmds = s.cmds := rfl
@[simp] theorem State.setPinA1_busAnswers (s : State) (v : Bool) : (s.setPinA1 v).busAnswers = s.busAnswers := rfl
@[simp] theorem State.setPinA1_pinAnswers (s : State) (v : Bool) : (s.setPinA1 v).pinAnswers = s.pinAnswers := rfl
@[simp] theorem State.setPinA1_calls (s : State) (v : Bool) : (s.setPinA1 v).calls = s.calls := rfl
@[simp] theorem State.setPinA1_results (s : State) (v : Bool) : (s.setPinA1 v).results = s.results := rfl

/-! ### State.issue -/

@[simp] theorem State.issue_cfg (s : State) (c : Call) : (s.issue c).cfg = s.cfg := rfl
@[simp] theorem State.issue_crcEn (s : State) (c : Call) : (s.issue c).crcEn = s.crcEn := rfl
@[simp] theorem State.issue_buf (s : State) (c : Call) : (s.issue c).buf = s.buf := rfl
@[simp] theorem State.issue_crcC (s : State) (c : Call) : (s.issue c).crcC = s.crcC := rfl
@[simp] theorem State.issue_crcR (s : State) (c : Call) : (s.issue c).crcR = s.crcR := rfl
@[simp] theorem State.issue_crcK (s : State) (c : Call) : (s.issue c).crcK = s.crcK := rfl
@[simp] theorem State.issue_modeCache (s : State) (c : Call) : (s.issue c).modeCache = s.modeCache := rfl
@[simp] theorem State.issue_pinA0 (s : State) (c : Call) : (s.issue c).pinA0 = s.pinA0 := rfl
@[simp] theorem State.issue_pinA1 (s : State) (c : Call) : (s.issue c).pinA1 = s.pinA1 := rfl
@[simp] theorem State.issue_busy (s : State) (c : Call) : (s.issue c).busy = s.busy := rfl
@[simp] theorem State.issue_seqStep (s : State) (c : Call) : (s.issue c).seqStep = s.seqStep := rfl
@[simp] theorem State.issue_released (s : State) (c : Call) : (s.issue c).released = s.released := rfl
@[simp] theorem State.issue_cmds (s : State) (c : Call) : (s.issue c).cmds = s.cmds := rfl
@[simp] theorem State.issue_busAnswers (s : State) (c : Call) : (s.issue c).busAnswers = s.busAnswers := rfl
@[simp] theorem State.issue_pinAnswers (s : State) (c : Call) : (s.issue c).pinAnswers = s.pinAnswers := rfl
@[simp] theorem State.issue_calls (s : State) (c : Call) : (s.issue c).calls = s.calls ++ [c] := rfl
@[simp] theorem State.issue_results (s : State) (c : Call) : (s.issue c).results = s.results := rfl

/-! ### State.issueXfer -/

@[simp] theorem State.issueXfer_cfg (s : State) (n : Nat) : (s.issueXfer n).cfg = s.cfg := rfl
@[simp] theorem State.issueXfer_crcEn (s : State) (n : Nat) : (s.issueXfer n).crcEn = s.crcEn := rfl
@[simp] theorem State.issueXfer_buf (s : State) (n : Nat) : (s.issueXfer n).buf = s.buf := rfl
@[simp] theorem State.issueXfer_crcC (s : State) (n : Nat) : (s.issueXfer n).crcC = s.crcC := rfl
@[simp] theorem State.issueXfer_crcR (s : State) (n : Nat) : (s.issueXfer n).crcR = s.crcR := rfl
@[simp] theorem State.issueXfer_crcK (s : State) (n : Nat) : (s.issueXfer n).crcK = s.crcK := rfl
@[simp] theorem State.issueXfer_modeCache (s : State) (n : Nat) : (s.issueXfer n).modeCache = s.modeCache := rfl
@[simp] theorem State.issueXfer_pinA0 (s : State) (n : Nat) : (s.issueXfer n).pinA0 = s.pinA0 := rfl
@[simp] theorem State.issueXfer_pinA1 (s : State) (n : Nat) : (s.issueXfer n).pinA1 = s.pinA1 := rfl
@[simp] theorem State.issueXfer_busy (s : State) (n : Nat) : (s.issueXfer n).busy = s.busy := rfl
@[simp] theorem State.issueXfer_seqStep (s : State) (n : Nat) : (s.issueXfer n).seqStep = s.seqStep := rfl
@[simp] theorem State.issueXfer_released (s : State) (n : Nat) : (s.issueXfer n).released = s.released := rfl
@[simp] theorem State.issueXfer_cmds (s : State) (n : Nat) : (s.issueXfer n).cmds = s.cmds := rfl
@[simp] theorem State.issueXfer_busAnswers (s : State) (n : Nat) : (s.issueXfer n).busAnswers = s.busAnswers := rfl
@[simp] theorem State.issueXfer_pinAnswers (s : State) (n : Nat) : (s.issueXfer n).pinAnswers = s.pinAnswers := rfl
@[simp] theorem State.issueXfer_calls (s : State) (n : Nat) : (s.issueXfer n).calls = s.calls ++ [.busXfer (sentBytes s.buf n) n true] := rfl
@[simp] theorem State.issueXfer_results (s : State) (n : Nat) : (s.issueXfer n).results = s.results := rfl

/-! ### State.sendByte -/

@[simp] theorem State.sendByte_cfg (s : State) (b : Byte) : (s.sendByte b).cfg = s.cfg := rfl
@[simp] theorem State.sendByte_crcEn (s : State) (b : Byte) : (s.sendByte b).crcEn = s.crcEn := rfl
@[simp] theorem State.sendByte_buf (s : State) (b : Byte) : (s.sendByte b).buf = { s.buf with b0 := b } := rfl
@[simp] theorem State.sendByte_crcC (s : State) (b : Byte) : (s.sendByte b).crcC = s.crcC := rfl
@[simp] theorem State.sendByte_crcR (s : State) (b : Byte) : (s.sendByte b).crcR = s.crcR := rfl
@[simp] theorem State.sendByte_crcK (s : State) (b : Byte) : (s.sendByte b).crcK = s.crcK := rfl
@[simp] theorem State.sendByte_modeCache (s : State) (b : Byte) : (s.sendByte b).modeCache = s.modeCache := rfl
@[simp] theorem State.sendByte_pinA0 (s : State) (b : Byte) : (s.sendByte b).pinA0 = s.pinA0 := rfl
@[simp] theorem State.sendByte_pinA1 (s : State) (b : Byte) : (s.sendByte b).pinA1 = s.pinA1 := rfl
@[simp] theorem State.sendByte_busy (s : State) (b : Byte) : (s.sendByte b).busy = s.busy := rfl
@[simp] theorem State.sendByte_seqStep (s : State) (b : Byte) : (s.sendByte b).seqStep = s.seqStep := rfl
@[simp] theorem State.sendByte_released (s : State) (b : Byte) : (s.sendByte b).released = s.released := rfl
@[simp] theorem State.sendByte_cmds (s : State) (b : Byte) : (s.sendByte b).cmds = s.cmds := rfl
@[simp] theorem State.sendByte_busAnswers (s : State) (b : Byte) : (s.sendByte b).busAnswers = s.busAnswers := rfl
@[simp] theorem State.sendByte_pinAnswers (s : State) (b : Byte) : (s.sendByte b).pinAnswers = s.pinAnswers := rfl
@[simp] theorem State.sendByte_calls (s : State) (b : Byte) : (s.sendByte b).calls = s.calls ++ [.busXfer [b] 1 true] := rfl
@[simp] theorem State.sendByte_results (s : State) (b : Byte) : (s.sendByte b).results = s.results := rfl

/-! ### State.waitAt -/

@[simp] theorem State.waitAt_cfg (s : State) (p : SeqStep) : (s.waitAt p).cfg = s.cfg := rfl
@[simp] theorem State.waitAt_crcEn (s : State) (p : SeqStep) : (s.waitAt p).crcEn = s.crcEn := rfl
@[simp] theorem State.waitAt_buf (s : State) (p : SeqStep) : (s.waitAt p).buf = s.buf := rfl
@[simp] theorem State.waitAt_crcC (s : State) (p : SeqStep) : (s.waitAt p).crcC = s.crcC := rfl
@[simp] theorem State.waitAt_crcR (s : State) (p : SeqStep) : (s.waitAt p).crcR = s.crcR := rfl
@[simp] theorem State.waitAt_crcK (s : State) (p : SeqStep) : (s.waitAt p).crcK = s.crcK := rfl
@[simp] theorem State.waitAt_modeCache (s : State) (p : SeqStep) : (s.waitAt p).modeCache = s.modeCache := rfl
@[simp] theorem State.waitAt_pinA0 (s : State) (p : SeqStep) : (s.waitAt p).pinA0 = s.pinA0 := rfl
@[simp] theorem State.waitAt_pinA1 (s : State) (p : SeqStep) : (s.waitAt p).pinA1 = s.pinA1 := rfl
@[simp] theorem State.waitAt_busy (s : State) (p : SeqStep) : (s.waitAt p).busy = s.busy := rfl
@[simp] theorem State.waitAt_seqStep (s : State) (p : SeqStep) : (s.waitAt p).seqStep = p := rfl
@[simp] theorem State.waitAt_released (s : State) (p : SeqStep) : (s.waitAt p).released = s.released := rfl
@[simp] theorem State.waitAt_cmds (s : State) (p : SeqStep) : (s.waitAt p).cmds = s.cmds := rfl
@[simp] theorem State.waitAt_busAnswers (s : State) (p : SeqStep) : (s.waitAt p).busAnswers = s.busAnswers := rfl
@[simp] theorem State.waitAt_pinAnswers (s : State) (p : SeqStep) : (s.waitAt p).pinAnswers = s.pinAnswers := rfl
@[simp] theorem State.waitAt_calls (s : State) (p : SeqStep) : (s.waitAt p).calls = s.calls := rfl
@[simp] theorem State.waitAt_results (s : State) (p : SeqStep) : (s.waitAt p).results = s.results := rfl

/-! ### State.dropBus -/

@[simp] theorem State.dropBus_cfg (s : State) (as : List BusAnswer) : (s.dropBus as).cfg = s.cfg := rfl
@[simp] theorem State.dropBus_crcEn (s : State) (as : List BusAnswer) : (s.dropBus as).crcEn = s.crcEn := rfl
@[simp] theorem State.dropBus_buf (s : State) (as : List BusAnswer) : (s.dropBus as).buf = s.buf := rfl
@[simp] theorem State.dropBus_crcC (s : State) (as : List BusAnswer) : (s.dropBus as).crcC = s.crcC := rfl
@[simp] theorem State.dropBus_crcR (s : State) (as : List BusAnswer) : (s.dropBus as).crcR = s.crcR := rfl
@[simp] theorem State.dropBus_crcK (s : State) (as : List BusAnswer) : (s.dropBus as).crcK = s.crcK := rfl
@[simp] theorem State.dropBus_modeCache (s : State) (as : List BusAnswer) : (s.dropBus as).modeCache = s.modeCache := rfl
@[simp] theorem State.dropBus_pinA0 (s : State) (as : List BusAnswer) : (s.dropBus as).pinA0 = s.pinA0 := rfl
@[simp] theorem State.dropBus_pinA1 (s : State) (as : List BusAnswer) : (s.dropBus as).pinA1 = s.pinA1 := rfl
@[simp] theorem State.dropBus_busy (s : State) (as : List BusAnswer) : (s.dropBus as).busy = s.busy := rfl
@[simp] theorem State.dropBus_seqStep (s : State) (as : List BusAnswer) : (s.dropBus as).seqStep = s.seqStep := rfl
@[simp] theorem State.dropBus_released (s : State) (as : List BusAnswer) : (s.dropBus as).released = s.released := rfl
@[simp] theorem State.dropBus_cmds (s : State) (as : List BusAnswer) : (s.dropBus as).cmds = s.cmds := rfl
@[simp] theorem State.dropBus_busAnswers (s : State) (as : List BusAnswer) : (s.dropBus as).busAnswers = as := rfl
@[simp] theorem State.dropBus_pinAnswers (s : State) (as : List BusAnswer) : (s.dropBus as).pinAnswers = s.pinAnswers := rfl
@[simp] theorem State.dropBus_calls (s : State) (as : List BusAnswer) : (s.dropBus as).calls = s.calls := rfl
@[simp] theorem State.dropBus_results (s : State) (as : List BusAnswer) : (s.dropBus as).results = s.results := rfl

/-! ### State.dropPin -/

@[simp] theorem State.dropPin_cfg (s : State) (as : List PinAnswer) : (s.dropPin as).cfg = s.cfg := rfl
@[simp] theorem State.dropPin_crcEn (s : State) (as : List PinAnswer) : (s.dropPin as).crcEn = s.crcEn := rfl
@[simp] theorem State.dropPin_buf (s : State) (as : List PinAnswer) : (s.dropPin as).buf = s.buf := rfl
@[simp] theorem State.dropPin_crcC (s : State) (as : List PinAnswer) : (s.dropPin as).crcC = s.crcC := rfl
@[simp] theorem State.dropPin_crcR (s : State) (as : List PinAnswer) : (s.dropPin as).crcR = s.crcR := rfl
@[simp] theorem State.dropPin_crcK (s : State) (as : List PinAnswer) : (s.dropPin as).crcK = s.crcK := rfl
@[simp] theorem State.dropPin_modeCache (s : State) (as : List PinAnswer) : (s.dropPin as).modeCache = s.modeCache := rfl
@[simp] theorem State.dropPin_pinA0 (s : State) (as : List PinAnswer) : (s.dropPin as).pinA0 = s.pinA0 := rfl
@[simp] theorem State.dropPin_pinA1 (s : State) (as : List PinAnswer) : (s.dropPin as).pinA1 = s.pinA1 := rfl
@[simp] theorem State.dropPin_busy (s : State) (as : List PinAnswer) : (s.dropPin as).busy = s.busy := rfl
@[simp] theorem State.dropPin_seqStep (s : State) (as : List PinAnswer) : (s.dropPin as).seqStep = s.seqStep := rfl
@[simp] theorem State.dropPin_released (s : State) (as : List PinAnswer) : (s.dropPin as).released = s.released := rfl
@[simp] theorem State.dropPin_cmds (s : State) (as : List PinAnswer) : (s.dropPin as).cmds = s.cmds := rfl
@[simp] theorem State.dropPin_busAnswers (s : State) (as : List PinAnswer) : (s.dropPin as).busAnswers = s.busAnswers := rfl
@[simp] theorem State.dropPin_pinAnswers (s : State) (as : List PinAnswer) : (s.dropPin as).pinAnswers = as := rfl
@[simp] theorem State.dropPin_calls (s : State) (as : List PinAnswer) : (s.dropPin as).calls = s.calls := rfl
@[simp] theorem State.dropPin_results (s : State) (as : List PinAnswer) : (s.dropPin as).results = s.results := rfl

/-! ### State.deliver -/

@[simp] theorem State.deliver_cfg (s : State) (r : Result) : (s.deliver r).cfg = s.cfg := rfl
@[simp] theorem State.deliver_crcEn (s : State) (r : Result) : (s.deliver r).crcEn = s.crcEn := rfl
@[simp] theorem State.deliver_buf (s : State) (r : Result) : (s.deliver r).buf = s.buf := rfl
@[simp] theorem State.deliver_crcC (s : State) (r : Result) : (s.deliver r).crcC = s.crcC := rfl
@[simp] theorem State.deliver_crcR (s : State) (r : Result) : (s.deliver r).crcR = s.crcR := rfl
@[simp] theorem State.deliver_crcK (s : State) (r : Result) : (s.deliver r).crcK = s.crcK := rfl
@[simp] theorem State.deliver_modeCache (s : State) (r : Result) : (s.deliver r).modeCache = s.modeCache := rfl
@[simp] theorem State.deliver_pinA0 (s : State) (r : Result) : (s.deliver r).pinA0 = s.pinA0 := rfl
@[simp] theorem State.deliver_pinA1 (s : State) (r : Result) : (s.deliver r).pinA1 = s.pinA1 := rfl
@[simp] theorem State.deliver_busy (s : State) (r : Result) : (s.deliver r).busy = s.busy := rfl
@[simp] theorem State.deliver_seqStep (s : State) (r : Result) : (s.deliver r).seqStep = s.seqStep := rfl
@[simp] theorem State.deliver_released (s : State) (r : Result) : (s.deliver r).released = s.released := rfl
@[simp] theorem State.deliver_cmds (s : State) (r : Result) : (s.deliver r).cmds = s.cmds := rfl
@[simp] theorem State.deliver_busAnswers (s : State) (r : Result) : (s.deliver r).busAnswers = s.busAnswers := rfl
@[simp] theorem State.deliver_pinAnswers (s : State) (r : Result) : (s.deliver r).pinAnswers = s.pinAnswers := rfl
@[simp] theorem State.deliver_calls (s : State) (r : Result) : (s.deliver r).calls = s.calls := rfl
@[simp] theorem State.deliver_results (s : State) (r : Result) : (s.deliver r).results = s.results ++ [r] := rfl

/-! ### State.goIdle -/

@[simp] theorem State.goIdle_cfg (s : State) : (s.goIdle).cfg = s.cfg := rfl
@[simp] theorem State.goIdle_crcEn (s : State) : (s.goIdle).crcEn = s.crcEn := rfl
@[simp] theorem State.goIdle_buf (s : State) : (s.goIdle).buf = s.buf := rfl
@[simp] theorem State.goIdle_crcC (s : State) : (s.goIdle).crcC = s.crcC := rfl
@[simp] theorem State.goIdle_crcR (s : State) : (s.goIdle).crcR = s.crcR := rfl
@[simp] theorem State.goIdle_crcK (s : State) : (s.goIdle).crcK = s.crcK := rfl
@[simp] theorem State.goIdle_modeCache (s : State) : (s.goIdle).modeCache = s.modeCache := rfl
@[simp] theorem State.goIdle_pinA0 (s : State) : (s.goIdle).pinA0 = s.pinA0 := rfl
@[simp] theorem State.goIdle_pinA1 (s : State) : (s.goIdle).pinA1 = s.pinA1 := rfl
@[simp] theorem State.goIdle_busy (s : State) : (s.goIdle).busy = false := rfl
@[simp] theorem State.goIdle_seqStep (s : State) : (s.goIdle).seqStep = .first := rfl
@[simp] theorem State.goIdle_released (s : State) : (s.goIdle).released = s.released := rfl
@[simp] theorem State.goIdle_cmds (s : State) : (s.goIdle).cmds = s.cmds := rfl
@[simp] theorem State.goIdle_busAnswers (s : State) : (s.goIdle).busAnswers = s.busAnswers := rfl
@[simp] theorem State.goIdle_pinAnswers (s : State) : (s.goIdle).pinAnswers = s.pinAnswers := rfl
@[simp] theorem State.goIdle_calls (s : State) : (s.goIdle).calls = s.calls := rfl
@[simp] theorem State.goIdle_results (s : State) : (s.goIdle).results = s.results := rfl

/-! ### State.finish -/

@[simp] theorem State.finish_cfg (s : State) (v : Value) : (s.finish v).cfg = s.cfg := rfl
@[simp] theorem State.finish_crcEn (s : State) (v : Value) : (s.finish v).crcEn = s.crcEn := rfl
@[simp] theorem State.finish_buf (s : State) (v : Value) : (s.finish v).buf = s.buf := rfl
@[simp] theorem State.finish_crcC (s : State) (v : Value) : (s.finish v).crcC = s.crcC := rfl
@[simp] theorem State.finish_crcR (s : State) (v : Value) : (s.finish v).crcR = s.crcR := rfl
@[simp] theorem State.finish_crcK (s : State) (v : Value) : (s.finish v).crcK = s.crcK := rfl
@[simp] theorem State.finish_modeCache (s : State) (v : Value) : (s.finish v).modeCache = s.modeCache := rfl
@[simp] theorem State.finish_pinA0 (s : State) (v : Value) : (s.finish v).pinA0 = s.pinA0 := rfl
@[simp] theorem State.finish_pinA1 (s : State) (v : Value) : (s.finish v).pinA1 = s.pinA1 := rfl
@[simp] theorem State.finish_busy (s : State) (v : Value) : (s.finish v).busy = false := rfl
@[simp] theorem State.finish_seqStep (s : State) (v : Value) : (s.finish v).seqStep = .first := rfl
@[simp] theorem State.finish_released (s : State) (v : Value) : (s.finish v).released = s.released := rfl
@[simp] theorem State.finish_cmds (s : State) (v : Value) : (s.finish v).cmds = s.cmds := rfl
@[simp] theorem State.finish_busAnswers (s : State) (v : Value) : (s.finish v).busAnswers = s.busAnswers := rfl
@[simp] theorem State.finish_pinAnswers (s : State) (v : Value) : (s.finish v).pinAnswers = s.pinAnswers := rfl
@[simp] theorem State.finish_calls (s : State) (v : Value) : (s.finish v).calls = s.calls := rfl
@[simp] theorem State.finish_results (s : State) (v : Value) : (s.finish v).results = s.results ++ [.ok v] := rfl

/-! ### State.raise -/

@[simp] theorem State.raise_cfg (s : State) (f : OpFault) : (s.raise f).cfg = s.cfg := rfl
@[simp] theorem State.raise_crcEn (s : State) (f : OpFault) : (s.raise f).crcEn = s.crcEn := rfl
@[simp] theorem State.raise_buf (s : State) (f : OpFault) : (s.raise f).buf = s.buf := rfl
@[simp] theorem State.raise_crcC (s : State) (f : OpFault) : (s.raise f).crcC = s.crcC := rfl
@[simp] theorem State.raise_crcR (s : State) (f : OpFault) : (s.raise f).crcR = s.crcR := rfl
@[simp] theorem State.raise_crcK (s : State) (f : OpFault) : (s.raise f).crcK = s.crcK := rfl
@[simp] theorem State.raise_modeCache (s : State) (f : OpFault) : (s.raise f).modeCache = s.modeCache := rfl
@[simp] theorem State.raise_pinA0 (s : State) (f : OpFault) : (s.raise f).pinA0 = s.pinA0 := rfl
@[simp] theorem State.raise_pinA1 (s : State) (f : OpFault) : (s.raise f).pinA1 = s.pinA1 := rfl
@[simp] theorem State.raise_busy (s : State) (f : OpFault) : (s.raise f).busy = false := rfl
@[simp] theorem State.raise_seqStep (s : State) (f : OpFault) : (s.raise f).seqStep = .first := rfl
@[simp] theorem State.raise_released (s : State) (f : OpFault) : (s.raise f).released = s.released := rfl
@[simp] theorem State.raise_cmds (s : State) (f : OpFault) : (s.raise f).cmds = s.cmds := rfl
@[simp] theorem State.raise_busAnswers (s : State) (f : OpFault) : (s.raise f).busAnswers = s.busAnswers := rfl
@[simp] theorem State.raise_pinAnswers (s : State) (f : OpFault) : (s.raise f).pinAnswers = s.pinAnswers := rfl
@[simp] theorem State.raise_calls (s : State) (f : OpFault) : (s.raise f).calls = s.calls := rfl
@[simp] theorem State.raise_results (s : State) (f : OpFault) : (s.raise f).results = s.results ++ [.fault f] := rfl

/-! ### State.start -/

@[simp] theorem State.start_cfg (s : State) : (s.start).cfg = s.cfg := rfl
@[simp] theorem State.start_crcEn (s : State) : (s.start).crcEn = s.crcEn := rfl
@[simp] theorem State.start_buf (s : State) : (s.start).buf = s.buf := rfl
@[simp] theorem State.start_crcC (s : State) : (s.start).crcC = s.crcC := rfl
@[simp] theorem State.start_crcR (s : State) : (s.start).crcR = s.crcR := rfl
@[simp] theorem State.start_crcK (s : State) : (s.start).crcK = s.crcK := rfl
@[simp] theorem State.start_modeCache (s : State) : (s.start).modeCache = s.modeCache := rfl
@[simp] theorem State.start_pinA0 (s : State) : (s.start).pinA0 = s.pinA0 := rfl
@[simp] theorem State.start_pinA1 (s : State) : (s.start).pinA1 = s.pinA1 := rfl
@[simp] theorem State.start_busy (s : State) : (s.start).busy = true := rfl
@[simp] theorem State.start_seqStep (s : State) : (s.start).seqStep = .first := rfl
@[simp] theorem State.start_released (s : State) : (s.start).released = s.released := rfl
@[simp] theorem State.start_cmds (s : State) : (s.start).cmds = s.cmds := rfl
@[simp] theorem State.start_busAnswers (s : State) : (s.start).busAnswers = s.busAnswers := rfl
@[simp] theorem State.start_pinAnswers (s : State) : (s.start).pinAnswers = s.pinAnswers := rfl
@[simp] theorem State.start_calls (s : State) : (s.start).calls = s.calls := rfl
@[simp] theorem State.start_results (s : State) : (s.start).results = s.results := rfl

/-! ### State.release -/

@[simp] theorem State.release_cfg (s : State) : (s.release).cfg = s.cfg := rfl
@[simp] theorem State.release_crcEn (s : State) : (s.release).crcEn = s.crcEn := rfl
@[simp] theorem State.release_buf (s : State) : (s.release).buf = s.buf := rfl
@[simp] theorem State.release_crcC (s : State) : (s.release).crcC = s.crcC := rfl
@[simp] theorem State.release_crcR (s : State) : (s.release).crcR = s.crcR := rfl
@[simp] theorem State.release_crcK (s : State) : (s.release).crcK = s.crcK := rfl
@[simp] theorem State.release_modeCache (s : State) : (s.release).modeCache = s.modeCache := rfl
@[simp] theorem State.release_pinA0 (s : State) : (s.release).pinA0 = s.pinA0 := rfl
@[simp] theorem State.release_pinA1 (s : State) : (s.release).pinA1 = s.pinA1 := rfl
@[simp] theorem State.release_busy (s : State) : (s.release).busy = s.busy := rfl
@[simp] theorem State.release_seqStep (s : State) : (s.release).seqStep = s.seqStep := rfl
@[simp] theorem State.release_released (s : State) : (s.release).released = true := rfl
@[simp] theorem State.release_cmds (s : State) : (s.release).cmds = s.cmds := rfl
@[simp] theorem State.release_busAnswers (s : State) : (s.release).busAnswers = s.busAnswers := rfl
@[simp] theorem State.release_pinAnswers (s : State) : (s.release).pinAnswers = s.pinAnswers := rfl
@[simp] theorem State.release_calls (s : State) : (s.release).calls = s.calls := rfl
@[simp] theorem State.release_results (s : State) : (s.release).results = s.results := rfl

end Sys2Proof.Machine
end

