-- ==== Sys2Proof/Laws/Visible.lean ====
section
/-! SUPPORT. The terms of Safety.lean field by field: the visible part of a state, one more result, more calls. -/

namespace Sys2Proof.Machine

open Sys2Proof

@[simp] theorem State.visible_cfg (s : State) : s.visible.cfg = s.cfg := rfl
@[simp] theorem State.visible_crcEn (s : State) : s.visible.crcEn = s.crcEn := rfl
@[simp] theorem State.visible_modeCache (s : State) : s.visible.modeCache = s.modeCache := rfl
@[simp] theorem State.visible_pinA0 (s : State) : s.visible.pinA0 = s.pinA0 := rfl
@[simp] theorem State.visible_pinA1 (s : State) : s.visible.pinA1 = s.pinA1 := rfl
@[simp] theorem State.visible_busy (s : State) : s.visible.busy = s.busy := rfl
@[simp] theorem State.visible_released (s : State) : s.visible.released = s.released := rfl
@[simp] theorem State.visible_cmds (s : State) : s.visible.cmds = s.cmds := rfl
@[simp] theorem State.visible_busAnswers (s : State) : s.visible.busAnswers = s.busAnswers := rfl
@[simp] theorem State.visible_pinAnswers (s : State) : s.visible.pinAnswers = s.pinAnswers := rfl
@[simp] theorem State.visible_calls (s : State) : s.visible.calls = s.calls := rfl
@[simp] theorem State.visible_results (s : State) : s.visible.results = s.results := rfl

@[simp] theorem State.withResult_cfg (s : State) (r : Result) : (s.withResult r).cfg = s.cfg := rfl
@[simp] theorem State.withResult_crcEn (s : State) (r : Result) : (s.withResult r).crcEn = s.crcEn := rfl
@[simp] theorem State.withResult_buf (s : State) (r : Result) : (s.withResult r).buf = s.buf := rfl
@[simp] theorem State.withResult_crcC (s : State) (r : Result) : (s.withResult r).crcC = s.crcC := rfl
@[simp] theorem State.withResult_crcR (s : State) (r : Result) : (s.withResult r).crcR = s.crcR := rfl
@[simp] theorem State.withResult_crcK (s : State) (r : Result) : (s.withResult r).crcK = s.crcK := rfl
@[simp] theorem State.withResult_modeCache (s : State) (r : Result) : (s.withResult r).modeCache = s.modeCache := rfl
@[simp] theorem State.withResult_pinA0 (s : State) (r : Result) : (s.withResult r).pinA0 = s.pinA0 := rfl
@[simp] theorem State.withResult_pinA1 (s : State) (r : Result) : (s.withResult r).pinA1 = s.pinA1 := rfl
@[simp] theorem State.withResult_busy (s : State) (r : Result) : (s.withResult r).busy = s.busy := rfl
@[simp] theorem State.withResult_seqStep (s : State) (r : Result) : (s.withResult r).seqStep = s.seqStep := rfl
@[simp] theorem State.withResult_released (s : State) (r : Result) : (s.withResult r).released = s.released := rfl
@[simp] theorem State.withResult_cmds (s : State) (r : Result) : (s.withResult r).cmds = s.cmds := rfl
@[simp] theorem State.withResult_busAnswers (s : State) (r : Result) : (s.withResult r).busAnswers = s.busAnswers := rfl
@[simp] theorem State.withResult_pinAnswers (s : State) (r : Result) : (s.withResult r).pinAnswers = s.pinAnswers := rfl
@[simp] theorem State.withResult_calls (s : State) (r : Result) : (s.withResult r).calls = s.calls := rfl
@[simp] theorem State.withResult_results (s : State) (r : Result) : (s.withResult r).results = s.results ++ [r] := rfl

@[simp] theorem State.withCalls_cfg (s : State) (cs : List Call) : (s.withCalls cs).cfg = s.cfg := rfl
@[simp] theorem State.withCalls_crcEn (s : State) (cs : List Call) : (s.withCalls cs).crcEn = s.crcEn := rfl
@[simp] theorem State.withCalls_buf (s : State) (cs : List Call) : (s.withCalls cs).buf = s.buf := rfl
@[simp] theorem State.withCalls_crcC (s : State) (cs : List Call) : (s.withCalls cs).crcC = s.crcC := rfl
@[simp] theorem State.withCalls_crcR (s : State) (cs : List Call) : (s.withCalls cs).crcR = s.crcR := rfl
@[simp] theorem State.withCalls_crcK (s : State) (cs : List Call) : (s.withCalls cs).crcK = s.crcK := rfl
@[simp] theorem State.withCalls_modeCache (s : State) (cs : List Call) : (s.withCalls cs).modeCache = s.modeCache := rfl
@[simp] theorem State.withCalls_pinA0 (s : State) (cs : List Call) : (s.withCalls cs).pinA0 = s.pinA0 := rfl
@[simp] theorem State.withCalls_pinA1 (s : State) (cs : List Call) : (s.withCalls cs).pinA1 = s.pinA1 := rfl
@[simp] theorem State.withCalls_busy (s : State) (cs : List Call) : (s.withCalls cs).busy = s.busy := rfl
@[simp] theorem State.withCalls_seqStep (s : State) (cs : List Call) : (s.withCalls cs).seqStep = s.seqStep := rfl
@[simp] theorem State.withCalls_released (s : State) (cs : List Call) : (s.withCalls cs).released = s.released := rfl
@[simp] theorem State.withCalls_cmds (s : State) (cs : List Call) : (s.withCalls cs).cmds = s.cmds := rfl
@[simp] theorem State.withCalls_busAnswers (s : State) (cs : List Call) : (s.withCalls cs).busAnswers = s.busAnswers := rfl
@[simp] theorem State.withCalls_pinAnswers (s : State) (cs : List Call) : (s.withCalls cs).pinAnswers = s.pinAnswers := rfl
@[simp] theorem State.withCalls_calls (s : State) (cs : List Call) : (s.withCalls cs).calls = s.calls ++ cs := rfl
@[simp] theorem State.withCalls_results (s : State) (cs : List Call) : (s.withCalls cs).results = s.results := rfl

/-- Two states have the same visible part exactly when they agree on every field the spec fixes between operations. -/
theorem visible_eq_iff (a b : State) :
    a.visible = b.visible ↔
      a.cfg = b.cfg ∧
      a.crcEn = b.crcEn ∧
      a.modeCache = b.modeCache ∧
      a.pinA0 = b.pinA0 ∧
      a.pinA1 = b.pinA1 ∧
      a.busy = b.busy ∧
      a.released = b.released ∧
      a.cmds = b.cmds ∧
      a.busAnswers = b.busAnswers ∧
      a.pinAnswers = b.pinAnswers ∧
      a.calls = b.calls ∧
      a.results = b.results := by
  constructor
  · intro h
    exact ⟨(congrArg State.cfg h : a.visible.cfg = b.visible.cfg),
      (congrArg State.crcEn h : a.visible.crcEn = b.visible.crcEn),
      (congrArg State.modeCache h : a.visible.modeCache = b.visible.modeCache),
      (congrArg State.pinA0 h : a.visible.pinA0 = b.visible.pinA0),
      (congrArg State.pinA1 h : a.visible.pinA1 = b.visible.pinA1),
      (congrArg State.busy h : a.visible.busy = b.visible.busy),
      (congrArg State.released h : a.visible.released = b.visible.released),
      (congrArg State.cmds h : a.visible.cmds = b.visible.cmds),
      (congrArg State.busAnswers h : a.visible.busAnswers = b.visible.busAnswers),
      (congrArg State.pinAnswers h : a.visible.pinAnswers = b.visible.pinAnswers),
      (congrArg State.calls h : a.visible.calls = b.visible.calls),
      (congrArg State.results h : a.visible.results = b.visible.results)⟩
  · rintro ⟨h0, h1, h2, h3, h4, h5, h6, h7, h8, h9, h10, h11⟩
    simp [State.visible, *]

end Sys2Proof.Machine
end

