-- ==== Sys2Proof/Laws/Ops.lean ====
section
/-! SUPPORT. What each shared operation of the machine can do, said once: accepting, awaiting an answer, the wholes of the
transports as functions of the answer, the tests of operands. -/

namespace Sys2Proof.Machine

open Sys2Proof

/-! ### Accepting -/

/-- An operation is accepted exactly when the block is ready, and then its body runs from the started state. -/
theorem accept_eq_next_iff (s t : State) (body : State → State) :
    accept s body = .next t ↔ s.Ready ∧ t = body s.start := by
  unfold accept
  constructor
  · intro h
    split at h
    · cases h
    · split at h
      · cases h
      · cases h
        exact ⟨⟨by simpa using ‹¬s.busy = true›, by simpa using ‹¬s.released = true›⟩, rfl⟩
  · rintro ⟨⟨hb, hr⟩, rfl⟩
    simp [hb, hr]

/-- An operation of the mode-pin unit is accepted exactly when the block is ready and has its pins. -/
theorem acceptPins_eq_next_iff (s t : State) (body : State → State) :
    acceptPins s body = .next t ↔ s.PinReady ∧ t = body s.start := by
  unfold acceptPins
  split
  · rename_i hp
    rw [accept_eq_next_iff]
    exact ⟨fun h => ⟨⟨h.1, hp⟩, h.2⟩, fun h => ⟨h.1.1, h.2⟩⟩
  · rename_i hp
    exact ⟨fun h => (by cases h), fun h => absurd h.1.2 hp⟩

/-- A ready block runs the body. -/
theorem accept_of_ready {s : State} (h : s.Ready) (body : State → State) : accept s body = .next (body s.start) :=
  (accept_eq_next_iff _ _ _).2 ⟨h, rfl⟩

/-- A ready block with its pins runs the body. -/
theorem acceptPins_of_ready {s : State} (h : s.PinReady) (body : State → State) :
    acceptPins s body = .next (body s.start) :=
  (acceptPins_eq_next_iff _ _ _).2 ⟨h, rfl⟩

/-! ### Awaiting an answer -/

/-- Everything a wait for the bus can do. -/
theorem awaitBus_cases (s : State) (p : SeqStep) (k : Trio → State → State) :
    (s.busAnswers = [] ∧ s.awaitBus p k = s.waitAt p) ∨
    (∃ e rest, s.busAnswers = .ioError e :: rest ∧ s.awaitBus p k = (s.dropBus rest).raise (.io e)) ∨
    (∃ rx rest, s.busAnswers = .ok rx :: rest ∧ s.awaitBus p k = k rx (s.dropBus rest)) := by
  unfold State.awaitBus
  rcases s.busAnswers with _ | ⟨rx | e, rest⟩
  · exact .inl ⟨rfl, rfl⟩
  · exact .inr (.inr ⟨_, _, rfl, rfl⟩)
  · exact .inr (.inl ⟨_, _, rfl, rfl⟩)

/-- Everything a wait for the pin primitive can do. -/
theorem awaitPin_cases (s : State) (p : SeqStep) (k : State → State) :
    (s.pinAnswers = [] ∧ s.awaitPin p k = s.waitAt p) ∨
    (∃ e rest, s.pinAnswers = .pinError e :: rest ∧ s.awaitPin p k = (s.dropPin rest).raise (.io e)) ∨
    (∃ rest, s.pinAnswers = .ok :: rest ∧ s.awaitPin p k = k (s.dropPin rest)) := by
  unfold State.awaitPin
  rcases s.pinAnswers with _ | ⟨_ | e, rest⟩
  · exact .inl ⟨rfl, rfl⟩
  · exact .inr (.inr ⟨_, rfl, rfl⟩)
  · exact .inr (.inl ⟨_, _, rfl, rfl⟩)

/-- A bus call that has no answer yet. -/
theorem awaitBus_nil {s : State} (h : s.busAnswers = []) (p : SeqStep) (k : Trio → State → State) :
    s.awaitBus p k = s.waitAt p := by simp [State.awaitBus, h]

/-- A bus call answered by an error. -/
theorem awaitBus_ioError {s : State} {e : ErrToken} {rest : List BusAnswer} (h : s.busAnswers = .ioError e :: rest)
    (p : SeqStep) (k : Trio → State → State) : s.awaitBus p k = (s.dropBus rest).raise (.io e) := by
  simp [State.awaitBus, h]

/-- A bus call answered Ok. -/
theorem awaitBus_ok {s : State} {rx : Trio} {rest : List BusAnswer} (h : s.busAnswers = .ok rx :: rest)
    (p : SeqStep) (k : Trio → State → State) : s.awaitBus p k = k rx (s.dropBus rest) := by
  simp [State.awaitBus, h]

/-- A pin call that has no answer yet. -/
theorem awaitPin_nil {s : State} (h : s.pinAnswers = []) (p : SeqStep) (k : State → State) :
    s.awaitPin p k = s.waitAt p := by simp [State.awaitPin, h]

/-- A pin call answered by an error. -/
theorem awaitPin_pinError {s : State} {e : ErrToken} {rest : List PinAnswer} (h : s.pinAnswers = .pinError e :: rest)
    (p : SeqStep) (k : State → State) : s.awaitPin p k = (s.dropPin rest).raise (.io e) := by
  simp [State.awaitPin, h]

/-- A pin call answered Ok. -/
theorem awaitPin_ok {s : State} {rest : List PinAnswer} (h : s.pinAnswers = .ok :: rest)
    (p : SeqStep) (k : State → State) : s.awaitPin p k = k (s.dropPin rest) := by
  simp [State.awaitPin, h]

/-! ### Exchanges -/

/-- The frame a loaded buffer sends is the frame of its three bytes. -/
theorem issueXfer_frame (s : State) (b0 b1 b2 : Byte) :
    ((s.loadFrame b0 b1 b2).issueXfer (s.loadFrame b0 b1 b2).frameLen).calls =
      s.calls ++ [frameCall s.crcEn b0 b1 b2] := by
  simp only [State.issueXfer_calls, State.loadFrame_calls, State.loadFrame_buf, State.frameLen, State.loadFrame_crcEn]
  cases s.crcEn <;> rfl

/-- An exchange of `n` bytes, at most three, sends `n` bytes. -/
theorem sentBytes_length (t : Trio) (n : Nat) (h : n ≤ 3) : (sentBytes t n).length = n := by
  simp [sentBytes, h]

/-- The frame length is 2 or 3 (10_state.md R11). -/
theorem frameLen_cases (s : State) : s.frameLen = if s.crcEn then 3 else 2 := rfl

/-! ### Operand tests -/

/-- A mode code names no mode exactly when it is 3 (30_encoding.md R60). -/
theorem modeOfCode_eq_none_iff (code : BitVec 2) : modeOfCode code = none ↔ code = 3 := by
  revert code
  decide

/-- The mode codes of the three modes (30_encoding.md R60). -/
theorem modeOfCode_eq_some_iff (code : BitVec 2) (m : Mode) :
    modeOfCode code = some m ↔ code = match m with | .config => 0 | .position => 1 | .velocity => 2 := by
  cases m <;> revert code <;> decide

/-- MCH refuses a code exactly when it is 3, or CONFIG's, or the strapping forbids raw reads (42_modepin.md R103). -/
theorem channelOf_eq_none_iff (c : Params) (code : BitVec 2) :
    channelOf c code = none ↔ code = 3 ∨ code = 0 ∨ c.rawStrap = false := by
  unfold channelOf
  generalize c.rawStrap = r
  revert code r
  decide

/-- A data channel is a mode other than CONFIG, and its own code names it (42_modepin.md R103). -/
theorem channelOf_eq_some_iff (c : Params) (code : BitVec 2) (m : Mode) :
    channelOf c code = some m ↔ modeOfCode code = some m ∧ m ≠ .config ∧ c.rawStrap = true := by
  unfold channelOf
  generalize c.rawStrap = r
  cases m <;> revert code r <;> decide

/-- A valid framed address fits the 6-bit field (20_memory.md R31). -/
theorem addrValid_le {c : Params} {a : Byte} (h : addrValid c a = true) : a ≤ 63 := by
  simp only [addrValid, Bool.and_eq_true, decide_eq_true_eq] at h
  exact h.1.1

end Sys2Proof.Machine
end

