-- ==== Sys2Proof/Laws/Exec.lean ====
section
/-! SUPPORT. What each operation answers, said once: exactly when `exec` gives a next state, and which; and what a step
that goes on with a waiting operation answers. -/

namespace Sys2Proof.Machine

open Sys2Proof

/-! ### The operations -/

theorem exec_crc5_iff (h m l : Byte) (s t : State) :
    exec (.crc5 h m l) s = .next t ↔
      s.Ready ∧ t = (s.start.runCrc h m l).finish (crcValue (s.start.runCrc h m l).crcOut) := by
  unfold exec execCrc5
  exact accept_eq_next_iff s t _

theorem exec_crcchk_iff (h m l : Byte) (s t : State) :
    exec (.crcchk h m l) s = .next t ↔
      s.Ready ∧ t = (s.start.runCrc h m l).finish (crcValue (crcDifference (s.start.runCrc h m l).crcOut l)) := by
  unfold exec execCrcchk
  exact accept_eq_next_iff s t _

theorem exec_fenc_iff (rw : Bool) (addr value : Byte) (s t : State) :
    exec (.fenc rw addr value) s = .next t ↔
      s.Ready ∧ t =
        if addrValid s.cfg addr then
          if s.crcEn then
            (s.start.runCrc (ctrl s.cfg rw addr) value 0).finish
              (frameValue (ctrl s.cfg rw addr) value (crcByte (s.start.runCrc (ctrl s.cfg rw addr) value 0).crcOut))
          else s.start.finish (frameValue (ctrl s.cfg rw addr) value 0)
        else s.start.raise .config := by
  unfold exec execFenc
  exact accept_eq_next_iff s t _

theorem exec_fdec_iff (b0 b1 b2 : Byte) (s t : State) :
    exec (.fdec b0 b1 b2) s = .next t ↔
      s.Ready ∧ t =
        if s.crcEn then
          if crcDifference (s.start.runCrc b0 b1 b2).crcOut b2 = 0 then (s.start.runCrc b0 b1 b2).finishDecode b0 b1
          else (s.start.runCrc b0 b1 b2).raise .integrity
        else s.start.finishDecode b0 b1 := by
  unfold exec execFdec
  exact accept_eq_next_iff s t _

theorem exec_frd_iff (addr : Byte) (s t : State) :
    exec (.frd addr) s = .next t ↔ s.Ready ∧ t = s.start.readRegister addr .frd := by
  unfold exec execFrd
  exact accept_eq_next_iff s t _

theorem exec_fwr_iff (addr value : Byte) (s t : State) :
    exec (.fwr addr value) s = .next t ↔ s.Ready ∧ t = s.start.writeRegister addr value .fwr := by
  unfold exec execFwr
  exact accept_eq_next_iff s t _

theorem exec_fupd_iff (addr mask value : Byte) (s t : State) :
    exec (.fupd addr mask value) s = .next t ↔ s.Ready ∧ t = s.start.readRegister addr (.fupd mask value) := by
  unfold exec execFupd
  exact accept_eq_next_iff s t _

theorem exec_msel_iff (mode : BitVec 2) (s t : State) :
    exec (.msel mode) s = .next t ↔ s.PinReady ∧ t = s.start.selectOrRefuse (modeOfCode mode) .msel := by
  unfold exec execMsel
  exact acceptPins_eq_next_iff s t _

theorem exec_mrd_iff (addr : Byte) (s t : State) :
    exec (.mrd addr) s = .next t ↔ s.PinReady ∧ t = s.start.selectOrRefuse (configFor s.cfg addr) (.mrd addr) := by
  unfold exec execMrd
  exact acceptPins_eq_next_iff s t _

theorem exec_mwr_iff (addr value : Byte) (s t : State) :
    exec (.mwr addr value) s = .next t ↔
      s.PinReady ∧ t = s.start.selectOrRefuse (configFor s.cfg addr) (.mwr addr value) := by
  unfold exec execMwr
  exact acceptPins_eq_next_iff s t _

theorem exec_mch_iff (mode : BitVec 2) (s t : State) :
    exec (.mch mode) s = .next t ↔ s.PinReady ∧ t = s.start.selectOrRefuse (channelOf s.cfg mode) .mch := by
  unfold exec execMch
  exact acceptPins_eq_next_iff s t _

/-- A busy block goes on with the operation that waits. -/
theorem step_busy {s : State} (h : s.busy = true) : step s = resume s := by
  simp [step, h]

/-- What follows an accepted or resumed step is a next state, unless no step waits. -/
theorem resume_next_of_waiting {s : State} (h : s.seqStep ≠ .first) : ∃ t, resume s = .next t := by
  unfold resume
  split <;> first | exact absurd ‹_› h | exact ⟨_, rfl⟩

/-! ### The parts of the transports, by their one wait each -/

/-- FWR's answer: wait, IoFault, or Ok. -/
theorem writeAnswered_cases (s : State) (use : WriteUse) :
    (s.busAnswers = [] ∧ s.writeAnswered use = s.waitAt (.writeXfer use)) ∨
    (∃ e rest, s.busAnswers = .ioError e :: rest ∧ s.writeAnswered use = (s.dropBus rest).raise (.io e)) ∨
    (∃ rx rest, s.busAnswers = .ok rx :: rest ∧ s.writeAnswered use = (s.dropBus rest).finish 0) :=
  awaitBus_cases s _ _

/-- FRD's answer: wait, IoFault, or the check of the received bytes. -/
theorem readAnswered_cases (s : State) (addr : Byte) (use : ReadUse) :
    (s.busAnswers = [] ∧ s.readAnswered addr use = s.waitAt (.readXfer addr use)) ∨
    (∃ e rest, s.busAnswers = .ioError e :: rest ∧ s.readAnswered addr use = (s.dropBus rest).raise (.io e)) ∨
    (∃ rx rest, s.busAnswers = .ok rx :: rest ∧
      s.readAnswered addr use =
        ((s.dropBus rest).setBuf (receiveInto s.buf rx s.frameLen)).readChecked addr use) :=
  awaitBus_cases s _ _

/-- The second exchange of MRD: wait, IoFault, or the received byte. -/
theorem mrdSecondAnswered_cases (s : State) :
    (s.busAnswers = [] ∧ s.mrdSecondAnswered = s.waitAt .mrdSecond) ∨
    (∃ e rest, s.busAnswers = .ioError e :: rest ∧ s.mrdSecondAnswered = (s.dropBus rest).raise (.io e)) ∨
    (∃ rx rest, s.busAnswers = .ok rx :: rest ∧
      s.mrdSecondAnswered = ((s.dropBus rest).setBuf0 rx.b0).finish (byteValue rx.b0)) :=
  awaitBus_cases s _ _

/-- The first exchange of MRD: wait, IoFault, or the second exchange. -/
theorem mrdFirstAnswered_cases (s : State) (addr : Byte) :
    (s.busAnswers = [] ∧ s.mrdFirstAnswered addr = s.waitAt (.mrdFirst addr)) ∨
    (∃ e rest, s.busAnswers = .ioError e :: rest ∧ s.mrdFirstAnswered addr = (s.dropBus rest).raise (.io e)) ∨
    (∃ rx rest, s.busAnswers = .ok rx :: rest ∧
      s.mrdFirstAnswered addr = ((s.dropBus rest).sendByte addr).mrdSecondAnswered) :=
  awaitBus_cases s _ _

/-- The value exchange of MWR: wait, IoFault, or Ok. -/
theorem mwrValueAnswered_cases (s : State) :
    (s.busAnswers = [] ∧ s.mwrValueAnswered = s.waitAt .mwrValue) ∨
    (∃ e rest, s.busAnswers = .ioError e :: rest ∧ s.mwrValueAnswered = (s.dropBus rest).raise (.io e)) ∨
    (∃ rx rest, s.busAnswers = .ok rx :: rest ∧ s.mwrValueAnswered = (s.dropBus rest).finish 0) :=
  awaitBus_cases s _ _

/-- The address exchange of MWR: wait, IoFault, or the value exchange. -/
theorem mwrAddrAnswered_cases (s : State) (value : Byte) :
    (s.busAnswers = [] ∧ s.mwrAddrAnswered value = s.waitAt (.mwrAddr value)) ∨
    (∃ e rest, s.busAnswers = .ioError e :: rest ∧ s.mwrAddrAnswered value = (s.dropBus rest).raise (.io e)) ∨
    (∃ rx rest, s.busAnswers = .ok rx :: rest ∧
      s.mwrAddrAnswered value = ((s.dropBus rest).sendByte value).mwrValueAnswered) :=
  awaitBus_cases s _ _

/-- The exchange of MCH: wait, IoFault, or the two received bytes. -/
theorem mchAnswered_cases (s : State) :
    (s.busAnswers = [] ∧ s.mchAnswered = s.waitAt .mchXfer) ∨
    (∃ e rest, s.busAnswers = .ioError e :: rest ∧ s.mchAnswered = (s.dropBus rest).raise (.io e)) ∨
    (∃ rx rest, s.busAnswers = .ok rx :: rest ∧
      s.mchAnswered = ((s.dropBus rest).setBuf (receiveInto s.buf rx 2)).finish (channelValue rx.b0 rx.b1)) :=
  awaitBus_cases s _ _

/-- The first pin write of MSEL: wait, IoFault, or the second pin write. -/
theorem pinA0Answered_cases (s : State) (m : Mode) (use : SelectUse) :
    (s.pinAnswers = [] ∧ s.pinA0Answered m use = s.waitAt (.pinA0 m use)) ∨
    (∃ e rest, s.pinAnswers = .pinError e :: rest ∧ s.pinA0Answered m use = (s.dropPin rest).raise (.io e)) ∨
    (∃ rest, s.pinAnswers = .ok :: rest ∧
      s.pinA0Answered m use =
        (((s.dropPin rest).setPinA0 (pinsOf s.cfg m).a0).issue
          (.pinSet .a1 (pinsOf s.cfg m).a1)).pinA1Answered m use) :=
  awaitPin_cases s _ _

/-- The second pin write of MSEL: wait, IoFault, or the cache, the delay and what follows the selection. -/
theorem pinA1Answered_cases (s : State) (m : Mode) (use : SelectUse) :
    (s.pinAnswers = [] ∧ s.pinA1Answered m use = s.waitAt (.pinA1 m use)) ∨
    (∃ e rest, s.pinAnswers = .pinError e :: rest ∧ s.pinA1Answered m use = (s.dropPin rest).raise (.io e)) ∨
    (∃ rest, s.pinAnswers = .ok :: rest ∧
      s.pinA1Answered m use =
        ((((s.dropPin rest).setPinA1 (pinsOf s.cfg m).a1).setCache m).issue (.delay s.cfg.tModeSettle)).selected use) :=
  awaitPin_cases s _ _

end Sys2Proof.Machine
end

