-- ==== Sys2Proof/Laws/PerInstr.lean ====
section
/-! SUPPORT. Families of statements about every operation as syntax, one lemma per constructor. -/

namespace Sys2Proof.Laws

open Sys2Proof

/-- The `op` field of a command word (30_encoding.md R61). -/
theorem opField_commandWord (op : BitVec 4) (mode : BitVec 2) (rw : Bool) (a b c : Byte) :
    opField (commandWord op mode rw a b c) = op := by
  apply BitVec.eq_of_getLsbD_eq
  intro i hi
  interval_cases i <;> simp [opField, commandWord]

/-- Bit 25 of a command word is reserved and written as 0 (30_encoding.md R61, R64). -/
theorem reservedBit_commandWord (op : BitVec 4) (mode : BitVec 2) (rw : Bool) (a b c : Byte) :
    (commandWord op mode rw a b c).getLsbD 25 = false := by
  simp [commandWord]

namespace OpField

/-- The command word of an operation carries the operation's own code, and 0 in the reserved bit (30_encoding.md R61). -/
def Statement (i : Instr) : Prop := opField (encode i) = i.opcode ∧ (encode i).getLsbD 25 = false

theorem crc5 (h m l : Byte) : Statement (.crc5 h m l) := ⟨opField_commandWord _ _ _ _ _ _, reservedBit_commandWord _ _ _ _ _ _⟩
theorem fenc (rw : Bool) (addr value : Byte) : Statement (.fenc rw addr value) := ⟨opField_commandWord _ _ _ _ _ _, reservedBit_commandWord _ _ _ _ _ _⟩
theorem fdec (b0 b1 b2 : Byte) : Statement (.fdec b0 b1 b2) := ⟨opField_commandWord _ _ _ _ _ _, reservedBit_commandWord _ _ _ _ _ _⟩
theorem frd (addr : Byte) : Statement (.frd addr) := ⟨opField_commandWord _ _ _ _ _ _, reservedBit_commandWord _ _ _ _ _ _⟩
theorem fwr (addr value : Byte) : Statement (.fwr addr value) := ⟨opField_commandWord _ _ _ _ _ _, reservedBit_commandWord _ _ _ _ _ _⟩
theorem fupd (addr mask value : Byte) : Statement (.fupd addr mask value) := ⟨opField_commandWord _ _ _ _ _ _, reservedBit_commandWord _ _ _ _ _ _⟩
theorem crcchk (h m l : Byte) : Statement (.crcchk h m l) := ⟨opField_commandWord _ _ _ _ _ _, reservedBit_commandWord _ _ _ _ _ _⟩
theorem msel (mode : BitVec 2) : Statement (.msel mode) := ⟨opField_commandWord _ _ _ _ _ _, reservedBit_commandWord _ _ _ _ _ _⟩
theorem mrd (addr : Byte) : Statement (.mrd addr) := ⟨opField_commandWord _ _ _ _ _ _, reservedBit_commandWord _ _ _ _ _ _⟩
theorem mwr (addr value : Byte) : Statement (.mwr addr value) := ⟨opField_commandWord _ _ _ _ _ _, reservedBit_commandWord _ _ _ _ _ _⟩
theorem mch (mode : BitVec 2) : Statement (.mch mode) := ⟨opField_commandWord _ _ _ _ _ _, reservedBit_commandWord _ _ _ _ _ _⟩

end OpField

end Sys2Proof.Laws
end

