-- ==== Sys2Proof/Tests/Slice0.lean ====
section
/-! SUPPORT. Tests. Words and expected results are those of spec/95_test_vectors.md (the row is named) or worked out from
the rule named; a `witness` theorem shows that the hypotheses of one clause of an obligation can be met together. -/

namespace Sys2Proof.Tests

open Sys2Proof Sys2Proof.Machine

-- An evaluation of the CRC machine nests 19 steps.
set_option maxRecDepth 4000

/-! ### Helpers -/

/-- An instance of the default parameters, not busy, with the answers its primitives will give. -/
def idle (crcEn : Bool) (cache : Option Mode) (bus : List BusAnswer) (pins : List PinAnswer) : State :=
  { State.construct Params.default crcEn with modeCache := cache, busAnswers := bus, pinAnswers := pins }

/-- What an outcome is seen by: the response words, the calls, whether the block is busy. -/
def seen (o : Out) : Option (List Word × List Call × Bool) :=
  match o with
  | .next t => some (t.results.map Result.word, t.calls, t.busy)
  | .fault _ => none
  | .refused _ => none

/-- The mode cache and the pins after an outcome. -/
def modeSeen (o : Out) : Option (Option Mode × Bool × Bool) :=
  match o with
  | .next t => some (t.modeCache, t.pinA0, t.pinA1)
  | .fault _ => none
  | .refused _ => none

/-- Whether an outcome is this refusal. -/
def refusedWith (o : Out) (r : Refusal) : Bool :=
  match o with
  | .next _ => false
  | .fault _ => false
  | .refused r' => r' == r

/-- The cached mode CONFIG with its pins. -/
def inConfig (bus : List BusAnswer) (pins : List PinAnswer) : State :=
  { idle false (some .config) bus pins with pinA0 := true, pinA1 := true }

/-- The cached mode POSITION with its pins. -/
def inPosition (bus : List BusAnswer) (pins : List PinAnswer) : State := idle false (some .position) bus pins

/-! ### Decoding: words written out in 95_test_vectors.md section 3, or from the table of 30_encoding.md R61 -/

theorem test_decode_crc5 : decode 0x10923400 = .ok (.crc5 0x92 0x34 0x00) := by rfl
theorem test_decode_fenc : decode 0x21120034 = .ok (.fenc true 0x12 0x34) := by rfl
theorem test_decode_fenc_read : decode 0x20120034 = .ok (.fenc false 0x12 0x34) := by rfl
theorem test_decode_fdec : decode 0x30923416 = .ok (.fdec 0x92 0x34 0x16) := by rfl
theorem test_decode_frd : decode 0x40120000 = .ok (.frd 0x12) := by rfl
theorem test_decode_fwr : decode 0x50120034 = .ok (.fwr 0x12 0x34) := by rfl
theorem test_decode_fupd : decode 0x60120F05 = .ok (.fupd 0x12 0x0F 0x05) := by rfl
theorem test_decode_crcchk : decode 0x70923436 = .ok (.crcchk 0x92 0x34 0x36) := by rfl
theorem test_decode_msel : decode 0x84000000 = .ok (.msel 1) := by rfl
theorem test_decode_mrd : decode 0x90910000 = .ok (.mrd 0x91) := by rfl
theorem test_decode_mwr : decode 0xA091007F = .ok (.mwr 0x91 0x7F) := by rfl
theorem test_decode_mch : decode 0xB8000000 = .ok (.mch 2) := by rfl
/-- R61: the unused fields, bit 25 among them, are ignored. -/
theorem test_decode_ignores_unused : decode 0x4F12FFFF = .ok (.frd 0x12) := by rfl
/-- P6, lines 9 and 10, and the lowest reserved code above the operations. -/
theorem test_decode_reserved : decode 0x00000000 = .error (.reservedOp 0x0) ∧
    decode 0xF0000000 = .error (.reservedOp 0xF) ∧ decode 0xC0000000 = .error (.reservedOp 0xC) := ⟨rfl, rfl, rfl⟩
theorem test_decodeTableWord : decodeTableWord 32 0x60120F05 = some (.fupd 0x12 0x0F 0x05) := by rfl
theorem test_decodeTableWord_reserved : decodeTableWord 32 0 = none := by rfl
/-- The words of the programs, from the encoder. -/
theorem test_encode : encode (.fupd 0x12 0xF0 0xC3) = 0x6012F0C3 ∧ encode (.fenc true 0x12 0x34) = 0x21120034 ∧
    encode (.mch 2) = 0xB8000000 := by decide

/-! ### WellFormed: each check refuses an ill-formed term, and the nearest term passes -/

theorem test_wf_fenc_address : (Instr.fenc true 64 0).wellFormed = false ∧ (Instr.fenc true 63 0).wellFormed = true := by decide
theorem test_wf_frd_address : (Instr.frd 0x40).wellFormed = false ∧ (Instr.frd 0x3F).wellFormed = true := by decide
theorem test_wf_fwr_address : (Instr.fwr 0xFF 0).wellFormed = false ∧ (Instr.fwr 0 0xFF).wellFormed = true := by decide
theorem test_wf_fupd_address : (Instr.fupd 0x80 0 0).wellFormed = false ∧ (Instr.fupd 0x12 0xFF 0).wellFormed = true := by decide
theorem test_wf_msel_code : (Instr.msel 3).wellFormed = false ∧ (Instr.msel 2).wellFormed = true := by decide
theorem test_wf_mch_code : (Instr.mch 3).wellFormed = false ∧ (Instr.mch 1).wellFormed = true := by decide
theorem test_wf_mch_config : (Instr.mch 0).wellFormed = false := by decide
/-- The checks of a set of parameters: an address range, two fields of the control byte, an injective pin map. -/
theorem test_wf_params : Params.default.wf = true ∧
    ({ Params.default with addrLo := 5, addrHi := 4 } : Params).wf = false ∧
    ({ Params.default with addrHi := 64 } : Params).wf = false ∧
    ({ Params.default with ctrlRwBit := 3 } : Params).wf = false ∧
    ({ Params.default with modePins := ⟨⟨true, true⟩, ⟨false, false⟩, ⟨true, true⟩⟩ } : Params).wf = false := by decide

/-! ### One operation each -/

/-- 2.1: `92 34 00` gives 0x16 (P6 line 1). -/
theorem test_crc5 : seen (exec (.crc5 0x92 0x34 0x00) (idle true none [] [])) = some ([0x00000016], [], false) := by
  decide
/-- P6 line 6: all ones, and low five bits ignored (2.1). -/
theorem test_crc5_ones : seen (exec (.crc5 0xFF 0xFF 0xE0) (idle true none [] [])) = some ([0x00000003], [], false) := by
  decide
/-- P6 line 5. -/
theorem test_crcchk : seen (exec (.crcchk 0x92 0x34 0x36) (idle true none [] [])) = some ([0x00000015], [], false) := by
  decide
/-- 2.6: `3C 81 BC` is accepted, its bits 7:5 covered; crc_en = 0 plays no part. -/
theorem test_crcchk_accepts : seen (exec (.crcchk 0x3C 0x81 0xBC) (idle false none [] [])) = some ([0x00000000], [], false) := by
  decide
/-- P6 line 2. -/
theorem test_fenc : seen (exec (.fenc true 0x12 0x34) (idle true none [] [])) = some ([0x00923416], [], false) := by
  decide
/-- 2.6: the refusal next to the highest address. -/
theorem test_fenc_refuses : seen (exec (.fenc true 0x40 0x34) (idle false none [] [])) = some ([0x60000000], [], false) := by
  decide
/-- 2.6: `D2 34 96`, an undetected double flip; bit 6 of the control byte is ignored. -/
theorem test_fdec : seen (exec (.fdec 0xD2 0x34 0x96) (idle true none [] [])) = some ([0x00005234], [], false) := by
  decide
/-- P6 line 4. -/
theorem test_fdec_rejects : seen (exec (.fdec 0x92 0x34 0x36) (idle true none [] [])) = some ([0x40000000], [], false) := by
  decide
/-- T5: the byte received at index 0 and bits 7:5 of the third are covered. -/
theorem test_frd : seen (exec (.frd 0x12) (idle true none [.ok ⟨0x3C, 0x81, 0xBC⟩] [])) =
    some ([0x00000081], [.busXfer [0x12, 0x00, 0x00] 3 true], false) := by decide
/-- T6: the same bytes but the first. -/
theorem test_frd_rejects : seen (exec (.frd 0x12) (idle true none [.ok ⟨0x00, 0x81, 0xBC⟩] [])) =
    some ([0x40000000], [.busXfer [0x12, 0x00, 0x00] 3 true], false) := by decide
/-- W2. -/
theorem test_fwr : seen (exec (.fwr 0x12 0x34) (idle true none [.ok ⟨0xAA, 0xBB, 0xCC⟩] [])) =
    some ([0x00000000], [.busXfer [0x92, 0x34, 0x16] 3 true], false) := by decide
/-- W5, with the token 9. -/
theorem test_fwr_io : seen (exec (.fwr 0x12 0x34) (idle true none [.ioError 9] [])) =
    some ([0x20000009], [.busXfer [0x92, 0x34, 0x16] 3 true], false) := by decide
/-- U2. -/
theorem test_fupd : seen (exec (.fupd 0x12 0xF0 0xC3) (idle true none [.ok ⟨0x00, 0x5A, 0x16⟩, .ok ⟨1, 2, 3⟩] [])) =
    some ([0x00000000], [.busXfer [0x12, 0x00, 0x00] 3 true, .busXfer [0x92, 0xCA, 0x0C] 3 true], false) := by
  decide
/-- U5: no second call. -/
theorem test_fupd_aborts : seen (exec (.fupd 0x12 0x0F 0x05) (idle true none [.ok ⟨0x00, 0x5B, 0x16⟩, .ok ⟨1, 2, 3⟩] [])) =
    some ([0x40000000], [.busXfer [0x12, 0x00, 0x00] 3 true], false) := by decide
/-- M3: A1 is rewritten though it does not change. -/
theorem test_msel : seen (exec (.msel 2) (inConfig [] [.ok, .ok])) =
      some ([0x00000000], [.pinSet .a0 false, .pinSet .a1 true, .delay 0], false) ∧
    modeSeen (exec (.msel 2) (inConfig [] [.ok, .ok])) = some (some .velocity, false, true) := by decide
/-- M6: the hazard of R149. -/
theorem test_msel_hazard : seen (exec (.msel 0) (inPosition [] [.ok, .pinError 1])) =
      some ([0x20000001], [.pinSet .a0 true, .pinSet .a1 true], false) ∧
    modeSeen (exec (.msel 0) (inPosition [] [.ok, .pinError 1])) = some (some .position, true, false) := by decide
/-- M7: the second byte, not the first. -/
theorem test_mrd : seen (exec (.mrd 0x91) (inConfig [.ok ⟨0x3C, 0, 0⟩, .ok ⟨0x7E, 0, 0⟩] [])) =
    some ([0x0000007E], [.busXfer [0x91] 1 true, .busXfer [0x91] 1 true], false) := by decide
/-- M9: no second exchange. -/
theorem test_mrd_io : seen (exec (.mrd 0x91) (inConfig [.ioError 3, .ok ⟨0x7E, 0, 0⟩] [])) =
    some ([0x20000003], [.busXfer [0x91] 1 true], false) := by decide
/-- R102, the worked example: from POSITION. -/
theorem test_mwr : seen (exec (.mwr 0x91 0x7F) (inPosition [.ok ⟨1, 0, 0⟩, .ok ⟨0x7E, 0, 0⟩] [.ok, .ok])) =
    some ([0x00000000], [.pinSet .a0 true, .pinSet .a1 true, .delay 0, .busXfer [0x91] 1 true, .busXfer [0x7F] 1 true],
      false) := by decide
/-- P3 line 7, after CONFIG. -/
theorem test_mch : seen (exec (.mch 2) (inConfig [.ok ⟨0xFF, 0xC4, 0⟩] [.ok, .ok])) =
    some ([0x0000FFC4], [.pinSet .a0 false, .pinSet .a1 true, .delay 0, .busXfer [0x00, 0x00] 2 true], false) := by
  decide
/-- M14. -/
theorem test_mch_config : seen (exec (.mch 0) (inConfig [.ok ⟨0xFF, 0xC4, 0⟩] [])) = some ([0x60000000], [], false) := by
  decide

/-! ### The machine -/

/-- The first command after reset is fetched and run; FRD waits for the bus (R151). -/
theorem test_step_after_reset : seen (step (State.reset.withFetchWord 32 0x40120000)) =
    some ([], [.busXfer [0x12, 0x00, 0x00] 3 true], true) := by decide
/-- P6 line 10: a reserved word. -/
theorem test_step_reserved : seen (step (State.reset.withFetchWord 32 0xF0000000)) = some ([0x60000000], [], false) := by
  decide
/-- U1 and U8: the three refusals. -/
theorem test_refusals :
    refusedWith (exec (.crc5 0 0 0) { State.reset with busy := true }) .presentedWhileBusy = true ∧
    refusedWith (exec (.crc5 0 0 0) State.reset.release) .instanceReleased = true ∧
    refusedWith (exec (.msel 0) (State.construct { Params.default with modePinsPresent := false } true))
      .modePinsAbsent = true := by decide

/-! ### Witnesses: the hypotheses of each clause of each obligation, met together -/

theorem witness_ReservedCommandIsAConfigFault :
    ({ State.reset with cmds := [0x0FFFFFFF] }).Ready ∧ opField 0x0FFFFFFF = 0 ∧
    0xC#4 ≤ opField 0xC0000000 ∧ 0xC#4 ≤ opField 0xFFFFFFFF := by decide

theorem witness_ConstructionGivesTheResetState : usesPins (.msel 3) = true ∧ Params.default.modePinsPresent = true := by
  decide

theorem witness_StepRunsTheDecodedOperation :
    State.reset.busy = false ∧ State.reset.cmds = [] ∧ (State.reset.withFetchWord 32 0x10000000).busy = false ∧
    (State.reset.withFetchWord 32 0x10000000).cmds = [0x10000000#32] ∧ decode 0x10000000 = .ok (.crc5 0 0 0) :=
  ⟨rfl, rfl, rfl, rfl, rfl⟩

/-- An operation that ends, and one that waits for the bus, and one that waits for a pin: the hypotheses of
OneResultPerOperation, AnOperationNeverAnsweredStaysBusy, LateBusAnswersChangeNothing, LatePinAnswersChangeNothing. -/
theorem witness_exec_answers_next :
    (∃ t, exec (.msel 0) (inConfig [] []) = .next t ∧ t.busy = false) ∧
    (∃ t, exec (.mrd 0xFF) (inConfig [.ok ⟨0, 0, 0⟩] []) = .next t ∧ t.busy = true ∧ t.seqStep.onBus = true) ∧
    (∃ t, exec (.fupd 0x3F 0xFF 0) (idle false none [.ok ⟨0, 0, 0⟩] []) = .next t ∧ t.busy = true ∧
      t.seqStep.onBus = true) ∧
    (∃ t, exec (.mch 1) (inConfig [] [.ok]) = .next t ∧ t.busy = true ∧ t.seqStep.onPin = true) :=
  ⟨⟨_, rfl, rfl⟩, ⟨_, rfl, rfl, rfl⟩, ⟨_, rfl, rfl, rfl⟩, ⟨_, rfl, rfl, rfl⟩⟩

/-- Each clause of AnOperationNeverAnsweredStaysBusy on the pins: a miss, with no answer and with one. -/
theorem witness_AnOperationNeverAnsweredStaysBusy_pins :
    (inConfig [] []).Accepts (.msel 1) ∧ (inConfig [] [.ok]).Accepts (.mch 2) ∧
    configCause Params.default (.msel 1) = false ∧ configCause Params.default (.mch 2) = false ∧
    targetMode Params.default (.msel 1) = some .position ∧ targetMode Params.default (.mch 2) = some .velocity ∧
    (inConfig [] []).modeCache ≠ some .position ∧ (inConfig [] [.ok]).modeCache ≠ some .velocity ∧
    (inConfig [] []).pinAnswers = [] ∧ (inConfig [] [.ok]).pinAnswers = [.ok] :=
  ⟨⟨⟨rfl, rfl⟩, fun _ => rfl⟩, ⟨⟨rfl, rfl⟩, fun _ => rfl⟩, rfl, rfl, rfl, rfl, by decide, by decide, rfl, rfl⟩

/-- Its clause on the first exchange: a framed operation, a hit, and a miss whose two pin writes answer Ok. -/
theorem witness_AnOperationNeverAnsweredStaysBusy_first :
    State.reset.Accepts (.fwr 63 0xFF) ∧ configCause Params.default (.fwr 63 0xFF) = false ∧
    (∃ c, firstExchange State.reset (.fwr 63 0xFF) = some c) ∧ State.reset.selectsOk (.fwr 63 0xFF) ∧
    State.reset.busAnswers = [] ∧
    (inConfig [] []).Accepts (.mrd 0xFF) ∧ configCause Params.default (.mrd 0xFF) = false ∧
    firstExchange (inConfig [] []) (.mrd 0xFF) = some (byteCall 0xFF) ∧ (inConfig [] []).selectsOk (.mrd 0xFF) ∧
    (inPosition [] [.ok, .ok]).selectsOk (.mrd 0xFF) ∧ (inPosition [] [.ok, .ok]).busAnswers = [] :=
  ⟨⟨⟨rfl, rfl⟩, fun h => nomatch h⟩, rfl, ⟨_, rfl⟩, (fun m h => nomatch h), rfl, ⟨⟨rfl, rfl⟩, fun _ => rfl⟩, rfl, rfl,
    (fun m h => by cases h; exact .inl rfl), (fun m h => by cases h; exact .inr ⟨[], rfl⟩), rfl⟩

/-- Its clause on the second exchange, of FUPD, MRD and MWR. -/
theorem witness_AnOperationNeverAnsweredStaysBusy_second :
    (∃ c, firstExchange (idle false none [.ok ⟨1, 2, 3⟩] []) (.fupd 63 0 0) = some c) ∧
    (∃ d, secondExchange (idle false none [.ok ⟨1, 2, 3⟩] []) ⟨1, 2, 3⟩ (.fupd 63 0 0) = some d) ∧
    (idle false none [.ok ⟨1, 2, 3⟩] []).Accepts (.fupd 63 0 0) ∧
    (idle false none [.ok ⟨1, 2, 3⟩] []).selectsOk (.fupd 63 0 0) ∧
    configCause Params.default (.fupd 63 0 0) = false ∧
    (inPosition [.ok ⟨1, 2, 3⟩] [.ok, .ok]).Accepts (.mwr 0 7) ∧ configCause Params.default (.mwr 0 7) = false ∧
    secondExchange (inPosition [.ok ⟨1, 2, 3⟩] [.ok, .ok]) ⟨1, 2, 3⟩ (.mwr 0 7) = some (byteCall 7) ∧
    secondExchange (inPosition [.ok ⟨1, 2, 3⟩] [.ok, .ok]) ⟨1, 2, 3⟩ (.mrd 0) = some (byteCall 0) ∧
    (inPosition [.ok ⟨1, 2, 3⟩] [.ok, .ok]).selectsOk (.mwr 0 7) ∧
    (inPosition [.ok ⟨1, 2, 3⟩] [.ok, .ok]).busAnswers = [.ok ⟨1, 2, 3⟩] :=
  ⟨⟨_, rfl⟩, ⟨_, rfl⟩, ⟨⟨rfl, rfl⟩, fun h => nomatch h⟩, (fun m h => nomatch h), rfl, ⟨⟨rfl, rfl⟩, fun _ => rfl⟩, rfl,
    rfl, rfl, (fun m h => by cases h; exact .inr ⟨[], rfl⟩), rfl⟩

/-- The hypotheses of Crc5DeliversTheCrc, CrcchkDeliversTheSyndrome, FencDeliversTheFrame and FdecDeliversTheFields. -/
theorem witness_Ready : State.reset.Ready ∧ (idle false none [] []).Ready := by decide

theorem witness_EverySingleBitFlipIsRejected : crcOkWord 0x923416 = true ∧ crcOkWord 0x000007 = true := by decide

theorem witness_ControlByteOfTheDecidedLayout :
    Params.default.decidedLayout = true ∧ (0 : Byte) ≤ 63 ∧ (63 : Byte) ≤ 63 := by decide

theorem witness_DecodeOfEncodedFrameRoundTrips :
    State.reset.Ready ∧ State.reset.cfg.fieldsApart = true ∧ State.reset.crcEn = true ∧
    addrValid State.reset.cfg 0 = true ∧ addrValid State.reset.cfg 63 = true := by decide

/-- Each clause of FrdFollowsItsRule and, with the second answers, of FupdFollowsItsRule. -/
theorem witness_FrdFollowsItsRule :
    State.reset.Ready ∧ addrValid State.reset.cfg 64 = false ∧ addrValid State.reset.cfg 63 = true ∧
    (idle true none [.ioError 7] []).busAnswers = .ioError 7 :: [] ∧
    readAccepted (idle true none [.ok ⟨0, 0x5A, 0x17⟩] []) 63 ⟨0, 0x5A, 0x17⟩ = false ∧
    readAccepted (idle true none [.ok ⟨0, 0x5A, 0x16⟩] []) 63 ⟨0, 0x5A, 0x16⟩ = true ∧
    readAccepted (idle false none [.ok ⟨0, 0x5A, 0x17⟩] []) 63 ⟨0, 0x5A, 0x17⟩ = true := by decide

theorem witness_FwrFollowsItsRule :
    (idle true none [.ok ⟨1, 2, 3⟩] []).Ready ∧ addrValid Params.default 64 = false ∧
    addrValid Params.default 0 = true ∧ (idle true none [.ok ⟨1, 2, 3⟩] []).busAnswers = .ok ⟨1, 2, 3⟩ :: [] ∧
    (idle true none [.ioError 9] []).busAnswers = .ioError 9 :: [] := by decide

theorem witness_FupdFollowsItsRule :
    (idle true none [.ok ⟨0, 0x5A, 0x16⟩, .ioError 2] []).Ready ∧
    addrValid (idle true none [.ok ⟨0, 0x5A, 0x16⟩, .ioError 2] []).cfg 63 = true ∧
    (idle true none [.ok ⟨0, 0x5A, 0x16⟩, .ioError 2] []).busAnswers = .ok ⟨0, 0x5A, 0x16⟩ :: .ioError 2 :: [] ∧
    readAccepted (idle true none [.ok ⟨0, 0x5A, 0x16⟩, .ioError 2] []) 63 ⟨0, 0x5A, 0x16⟩ = true ∧
    (idle true none [.ok ⟨0, 0x5A, 0x16⟩, .ok ⟨0, 0, 0⟩] []).busAnswers =
      .ok ⟨0, 0x5A, 0x16⟩ :: .ok ⟨0, 0, 0⟩ :: [] ∧
    readAccepted (idle true none [.ok ⟨0, 0x5A, 0x16⟩, .ok ⟨0, 0, 0⟩] []) 63 ⟨0, 0x5A, 0x16⟩ = true := by decide

theorem witness_FramedOperationsAsABusObserverSeesThem :
    (idle true none [.ok ⟨0, 0x5A, 0x16⟩, .ok ⟨0, 0, 0⟩] []).Ready ∧
    (idle true none [.ok ⟨0, 0x5A, 0x16⟩, .ok ⟨0, 0, 0⟩] []).cfg.decidedLayout = true ∧
    addrValid (idle true none [.ok ⟨0, 0x5A, 0x16⟩, .ok ⟨0, 0, 0⟩] []).cfg 0x3F = true ∧
    readAccepted (idle true none [.ok ⟨0, 0x5A, 0x16⟩, .ok ⟨0, 0, 0⟩] []) 0x3F ⟨0, 0x5A, 0x16⟩ = true ∧
    mayFailIo (.crcchk 0 0 0) = false ∧ usesPins (.fupd 0 0 0) = false := by decide

theorem witness_FramedOperationsAnswerNext :
    (∃ t, exec (.crcchk 0 0 0) State.reset = .next t) ∧ (∃ t, exec (.fupd 0 0 0) State.reset = .next t) :=
  ⟨⟨_, rfl⟩, ⟨_, rfl⟩⟩

/-- Each clause of MselFollowsItsRule. -/
theorem witness_MselFollowsItsRule :
    (inPosition [] [.ok, .ok]).PinReady ∧ modeOfCode 3 = none ∧ modeOfCode 1 = some .position ∧
    (inPosition [] []).modeCache = some .position ∧ modeOfCode 0 = some .config ∧
    (inPosition [] [.ok, .ok]).modeCache ≠ some .config ∧ (idle false none [] []).modeCache ≠ some .config ∧
    (inPosition [] [.pinError 1]).pinAnswers = .pinError 1 :: [] ∧
    (inPosition [] [.ok, .pinError 1]).pinAnswers = .ok :: .pinError 1 :: [] ∧
    (inPosition [] [.ok, .ok]).pinAnswers = .ok :: .ok :: [] := by decide

/-- Each clause of MselIsIdempotentUnderTheCache. -/
theorem witness_MselIsIdempotentUnderTheCache :
    (∃ t, exec (.msel 0) (inPosition [] [.ok, .ok]) = .next t ∧
      t.results = (inPosition [] [.ok, .ok]).results ++ [.ok 0] ∧
      t.modeCache = some .config ∧ targetMode t.cfg (.mrd 0x91) = some .config ∧ targetMode t.cfg (.frd 0) = none ∧
      ∃ u, exec (.mrd 0x91) t = .next u) ∧
    (∃ t, exec (.msel 0) (inPosition [] [.pinError 5, .ok, .ok]) = .next t ∧
      t.results = (inPosition [] [.pinError 5, .ok, .ok]).results ++ [.fault (.io 5)] ∧
      t.pinAnswers = .ok :: .ok :: []) :=
  ⟨⟨_, rfl, rfl, rfl, rfl, rfl, _, rfl⟩, ⟨_, rfl, rfl, rfl⟩⟩

/-- Each clause of MrdFollowsItsRule and MwrFollowsItsRule. -/
theorem witness_MrdAndMwrFollowTheirRules :
    (State.construct { Params.default with mAddrInvalid := [0xFF] } false).PinReady ∧
    mAddrValid { Params.default with mAddrInvalid := [0xFF] } 0xFF = false ∧
    mAddrValid { Params.default with mAddrInvalid := [0xFF] } 0xFE = true ∧ mAddrValid Params.default 0xFF = true ∧
    (inConfig [.ioError 1] []).PinReady ∧ (inConfig [.ioError 1] []).busAnswers = .ioError 1 :: [] ∧
    (inConfig [.ok ⟨0, 0, 0⟩, .ioError 1] []).busAnswers = .ok ⟨0, 0, 0⟩ :: .ioError 1 :: [] ∧
    (inConfig [.ok ⟨0, 0, 0⟩, .ok ⟨1, 0, 0⟩] []).busAnswers = .ok ⟨0, 0, 0⟩ :: .ok ⟨1, 0, 0⟩ :: [] := by decide

theorem witness_selectable :
    (inConfig [] []).selectable .config ∧ (inPosition [] [.ok, .ok]).selectable .config ∧
    (inConfig [] [.ok, .ok, .pinError 1]).selectable .position :=
  ⟨.inl rfl, .inr ⟨[], rfl⟩, .inr ⟨[.pinError 1], rfl⟩⟩

/-- The clauses that hand on a fault of the mode selection, of MRD, MWR and MCH. -/
theorem witness_selectionFaults :
    (∃ u, exec (.msel 0) (inPosition [] [.pinError 5]) = .next u ∧
      u.results = (inPosition [] [.pinError 5]).results ++ [.fault (.io 5)]) ∧
    (∃ u, exec (.msel 2) (inPosition [] [.ok, .pinError 5]) = .next u ∧
      u.results = (inPosition [] [.ok, .pinError 5]).results ++ [.fault (.io 5)]) :=
  ⟨⟨_, rfl, rfl⟩, ⟨_, rfl, rfl⟩⟩

/-- Each clause of MchFollowsItsRule. -/
theorem witness_MchFollowsItsRule :
    (inConfig [.ok ⟨1, 2, 3⟩] [.ok, .ok]).PinReady ∧
    (State.construct { Params.default with rawStrap := false } false).PinReady ∧
    modeOfCode 1 = some .position ∧ modeOfCode 2 = some .velocity ∧ Params.default.rawStrap = true ∧
    (inConfig [.ioError 1] [.ok, .ok]).busAnswers = .ioError 1 :: [] ∧
    (inConfig [.ok ⟨1, 2, 3⟩] [.ok, .ok]).busAnswers = .ok ⟨1, 2, 3⟩ :: [] := by decide

theorem witness_ModePinOperationsAsAnObserverSeesThem :
    (inConfig [.ok ⟨0, 0, 0⟩, .ok ⟨1, 0, 0⟩] []).PinReady ∧ mAddrValid Params.default 0x91 = true ∧
    channelOf Params.default 2 = some .velocity ∧ usesPins (.mch 2) = true ∧
    (inConfig [.ok ⟨0, 0, 0⟩, .ok ⟨1, 0, 0⟩] []).selectable .config ∧
    (∃ t, exec (.mch 2) (inConfig [.ok ⟨0, 0, 0⟩] [.ok, .ok]) = .next t) :=
  ⟨⟨⟨rfl, rfl⟩, rfl⟩, rfl, rfl, rfl, .inl rfl, _, rfl⟩

/-- The second half of DecodeOfEncodedFrameRoundTrips, without integrity checking. -/
theorem witness_DecodeOfEncodedFrameRoundTrips_off :
    (idle false none [] []).Ready ∧ (idle false none [] []).cfg.fieldsApart = true ∧
    (idle false none [] []).crcEn = false ∧ addrValid (idle false none [] []).cfg 63 = true := by decide

theorem witness_CacheAndPinsAreNeverRolledBack :
    (inPosition [.ioError 4] [.ok, .ok]).PinReady ∧
    targetMode (inPosition [.ioError 4] [.ok, .ok]).cfg (.mrd 0x91) = some .config ∧
    (∀ code, Instr.mrd 0x91 ≠ .msel code) ∧ (inPosition [.ioError 4] [.ok, .ok]).selectable .config ∧
    (inPosition [.ioError 4] [.ok, .ok]).busAnswers = .ioError 4 :: [] ∧
    (∃ t, exec (.mrd 0x91) (inPosition [.ioError 4] [.ok, .ok]) = .next t) :=
  ⟨⟨⟨rfl, rfl⟩, rfl⟩, rfl, (fun _ h => by cases h), .inr ⟨[], rfl⟩, rfl, _, rfl⟩

/-- P5: each clause of PinFaultHazardAndItsRecovery. -/
theorem witness_PinFaultHazardAndItsRecovery :
    (inPosition [] [.ok, .pinError 1]).PinReady ∧ modeOfCode 1 = some .position ∧ modeOfCode 0 = some .config ∧
    (inPosition [] [.ok, .pinError 1]).modeCache = some .position ∧ (inPosition [] [.ok, .pinError 1]).agrees ∧
    (inPosition [] [.ok, .pinError 1]).pinAnswers = .ok :: .pinError 1 :: [] ∧
    modeOfCode 2 = some .velocity ∧ (inPosition [] []).modeCache ≠ some .velocity ∧
    (inPosition [] [.ok, .ok, .ok, .ok]).pinAnswers = .ok :: .ok :: .ok :: .ok :: [] :=
  ⟨⟨⟨rfl, rfl⟩, rfl⟩, rfl, rfl, rfl, (fun m h => by cases h; exact ⟨rfl, rfl⟩), rfl, rfl, by decide, rfl⟩

theorem witness_CacheAndPinsAgreeWhileNoPinFails :
    (inPosition [.ok ⟨0, 0, 0⟩] [.ok, .ok]).agrees ∧ (∀ a ∈ (inPosition [.ok ⟨0, 0, 0⟩] [.ok, .ok]).pinAnswers, a = .ok) ∧
    (∃ t, exec (.mrd 0x91) (inPosition [.ok ⟨0, 0, 0⟩] [.ok, .ok]) = .next t ∧ t.seqStep.onPin = false) :=
  ⟨(fun m h => by cases h; exact ⟨rfl, rfl⟩), by decide, _, rfl, rfl⟩

theorem witness_ConfigFaultExactlyForItsCausesAndTouchesNothing :
    State.reset.Accepts (.frd 64) ∧ State.reset.Accepts (.mch 3) ∧
    (∃ t, exec (.frd 64) State.reset = .next t ∧ t.results = State.reset.results ++ [.fault .config]) :=
  ⟨⟨⟨rfl, rfl⟩, fun h => nomatch h⟩, ⟨⟨rfl, rfl⟩, fun _ => rfl⟩, _, rfl, rfl⟩

/-- One fault of each class: the hypotheses of WhichOperationCanEndInWhichFault, IoFaultCarriesThePrimitivesToken (bus
and pin) and AfterAFaultTheBlockIsReady. -/
theorem witness_faults :
    (∃ t, exec (.msel 3) State.reset = .next t ∧ t.results = State.reset.results ++ [.fault .config]) ∧
    (∃ t, exec (.frd 0) (idle false none [.ioError 7] []) = .next t ∧
      t.results = (idle false none [.ioError 7] []).results ++ [.fault (.io 7)]) ∧
    (∃ t, exec (.mch 1) (idle false none [] [.pinError 8]) = .next t ∧
      t.results = (idle false none [] [.pinError 8]).results ++ [.fault (.io 8)]) ∧
    State.reset.Accepts (.mwr 0 0) :=
  ⟨⟨_, rfl, rfl⟩, ⟨_, rfl, rfl⟩, ⟨_, rfl, rfl⟩, ⟨⟨rfl, rfl⟩, fun _ => rfl⟩⟩

/-- An IntegrityFault (T7), for the same statements. -/
theorem witness_integrityFault :
    ((match exec (.frd 0x12) (idle true none [.ok ⟨0, 0, 0⟩] []) with
      | .next t => t.results
      | .fault _ => []
      | .refused _ => []) = [.fault .integrity]) := by decide

theorem witness_CrcEnAndParametersNeverChange :
    (∃ t, step State.reset = .next t) ∧ (∃ t, step (State.reset.withFetchWord 32 0x10000000) = .next t) :=
  ⟨⟨_, rfl⟩, ⟨_, rfl⟩⟩

theorem witness_InvariantHoldsAtConstruction : Params.default.wf = true := by decide

/-- A state just constructed meets the invariant, and steps; so the hypotheses of EveryStepKeepsTheInvariant and
InvariantStatesNeverFault are met. -/
theorem witness_EveryStepKeepsTheInvariant :
    (idle true none [] []).Inv ∧ (∃ t, step (idle true none [] []) = .next t) :=
  ⟨{ params := by decide
     sequencer := by decide
     fits := by decide
     awaited := fun h => nomatch h
     exact := fun c h => nomatch h
     noResource := by decide
     integrity := fun _ => rfl }, _, rfl⟩

theorem witness_UnspecifiedRegistersAreNeverReadBeforeWritten :
    State.reset.visible = ({ State.reset with buf := ⟨1, 2, 3⟩, crcC := 4, crcR := 5, crcK := 6 }).visible ∧
    (∃ t, exec (.frd 0) State.reset = .next t) :=
  ⟨rfl, _, rfl⟩

theorem witness_PinsAndEarlierResultsAreNeverRead : ∃ t, exec (.mch 1) State.reset = .next t := ⟨_, rfl⟩

end Sys2Proof.Tests
end

section
/-! PROOFS. Cache and pins agree while no pin write fails (10_state.md R15): what a mode selection works on, which
operations leave it alone, and what a selection makes of it. -/

namespace Sys2Proof.Machine

open Sys2Proof

/-! ### What a mode selection works on -/

/-- The parameters, the mode cache and the two pin latches: all that `State.agrees` speaks of (10_state.md R14, R15). -/
def State.selection (s : State) : Params × Option Mode × Bool × Bool := (s.cfg, s.modeCache, s.pinA0, s.pinA1)

/-- Agreement of cache and pins rests on the selection alone. -/
theorem agrees_of_selection_eq {s t : State} (h : t.selection = s.selection) (hs : s.agrees) : t.agrees := by
  simp only [State.selection, Prod.mk.injEq] at h
  obtain ⟨hcfg, hcache, ha0, ha1⟩ := h
  intro m hm
  rw [hcfg, ha0, ha1]
  exact hs m (hcache ▸ hm)

@[simp] theorem State.setBuf_selection (s : State) (b : Trio) : (s.setBuf b).selection = s.selection := rfl
@[simp] theorem State.setBuf0_selection (s : State) (b : Byte) : (s.setBuf0 b).selection = s.selection := rfl
@[simp] theorem State.loadFrame_selection (s : State) (b0 b1 b2 : Byte) :
    (s.loadFrame b0 b1 b2).selection = s.selection := rfl
@[simp] theorem State.runCrc_selection (s : State) (h m l : Byte) : (s.runCrc h m l).selection = s.selection := rfl
@[simp] theorem State.issue_selection (s : State) (c : Call) : (s.issue c).selection = s.selection := rfl
@[simp] theorem State.issueXfer_selection (s : State) (n : Nat) : (s.issueXfer n).selection = s.selection := rfl
@[simp] theorem State.sendByte_selection (s : State) (b : Byte) : (s.sendByte b).selection = s.selection := rfl
@[simp] theorem State.waitAt_selection (s : State) (p : SeqStep) : (s.waitAt p).selection = s.selection := rfl
@[simp] theorem State.dropBus_selection (s : State) (rest : List BusAnswer) :
    (s.dropBus rest).selection = s.selection := rfl
@[simp] theorem State.finish_selection (s : State) (v : Value) : (s.finish v).selection = s.selection := rfl
@[simp] theorem State.finishDecode_selection (s : State) (b0 b1 : Byte) :
    (s.finishDecode b0 b1).selection = s.selection := rfl
@[simp] theorem State.raise_selection (s : State) (f : OpFault) : (s.raise f).selection = s.selection := rfl
@[simp] theorem State.start_selection (s : State) : s.start.selection = s.selection := rfl

/-- A wait for the bus leaves the selection alone if what follows an Ok answer does. -/
theorem awaitBus_selection (s : State) (p : SeqStep) (k : Trio → State → State)
    (hk : ∀ rx u, (k rx u).selection = u.selection) : (s.awaitBus p k).selection = s.selection := by
  rcases awaitBus_cases s p k with ⟨-, h⟩ | ⟨e, rest, -, h⟩ | ⟨rx, rest, -, h⟩ <;> simp [h, hk]

@[simp] theorem writeAnswered_selection (s : State) (use : WriteUse) :
    (s.writeAnswered use).selection = s.selection :=
  awaitBus_selection _ _ _ fun _ _ => rfl

@[simp] theorem loadWriteFrame_selection (s : State) (addr value : Byte) :
    (s.loadWriteFrame addr value).selection = s.selection := by
  unfold State.loadWriteFrame
  split <;> rfl

@[simp] theorem writeRegister_selection (s : State) (addr value : Byte) (use : WriteUse) :
    (s.writeRegister addr value use).selection = s.selection := by
  unfold State.writeRegister
  split <;> simp

@[simp] theorem readDone_selection (s : State) (addr : Byte) (use : ReadUse) :
    (s.readDone addr use).selection = s.selection := by
  cases use with
  | frd => rfl
  | fupd mask value => exact writeRegister_selection _ _ _ _

@[simp] theorem readChecked_selection (s : State) (addr : Byte) (use : ReadUse) :
    (s.readChecked addr use).selection = s.selection := by
  unfold State.readChecked
  split
  · dsimp only
    split <;> simp
  · simp

@[simp] theorem readAnswered_selection (s : State) (addr : Byte) (use : ReadUse) :
    (s.readAnswered addr use).selection = s.selection :=
  awaitBus_selection _ _ _ fun _ _ => by simp

@[simp] theorem readRegister_selection (s : State) (addr : Byte) (use : ReadUse) :
    (s.readRegister addr use).selection = s.selection := by
  unfold State.readRegister
  split <;> simp

@[simp] theorem mrdSecondAnswered_selection (s : State) : s.mrdSecondAnswered.selection = s.selection :=
  awaitBus_selection _ _ _ fun _ _ => rfl

@[simp] theorem mrdFirstAnswered_selection (s : State) (addr : Byte) :
    (s.mrdFirstAnswered addr).selection = s.selection :=
  awaitBus_selection _ _ _ fun _ _ => by simp

@[simp] theorem mwrValueAnswered_selection (s : State) : s.mwrValueAnswered.selection = s.selection :=
  awaitBus_selection _ _ _ fun _ _ => rfl

@[simp] theorem mwrAddrAnswered_selection (s : State) (value : Byte) :
    (s.mwrAddrAnswered value).selection = s.selection :=
  awaitBus_selection _ _ _ fun _ _ => by simp

@[simp] theorem mchAnswered_selection (s : State) : s.mchAnswered.selection = s.selection :=
  awaitBus_selection _ _ _ fun _ _ => rfl

/-- What follows a mode selection, the exchanges of MRD, MWR and MCH, does not select again (42_modepin.md R105). -/
@[simp] theorem selected_selection (s : State) (use : SelectUse) : (s.selected use).selection = s.selection := by
  cases use <;> simp [State.selected, State.mchSend]

/-- The operations that are not of the mode-pin unit touch neither cache nor pins (41_frame.md R86). -/
theorem exec_selection_of_not_usesPins {i : Instr} {s t : State} (hi : usesPins i = false)
    (h : exec i s = .next t) : t.selection = s.selection := by
  cases i with
  | crc5 high mid low => obtain ⟨-, rfl⟩ := (exec_crc5_iff ..).1 h; simp
  | crcchk high mid low => obtain ⟨-, rfl⟩ := (exec_crcchk_iff ..).1 h; simp
  | fenc rw addr value =>
    obtain ⟨-, rfl⟩ := (exec_fenc_iff ..).1 h
    split
    · split <;> simp
    · simp
  | fdec b0 b1 b2 =>
    obtain ⟨-, rfl⟩ := (exec_fdec_iff ..).1 h
    split
    · split <;> simp
    · simp
  | frd addr => obtain ⟨-, rfl⟩ := (exec_frd_iff ..).1 h; simp
  | fwr addr value => obtain ⟨-, rfl⟩ := (exec_fwr_iff ..).1 h; simp
  | fupd addr mask value => obtain ⟨-, rfl⟩ := (exec_fupd_iff ..).1 h; simp
  | msel | mrd | mwr | mch => cases hi

/-! ### Cache and pins agree while no pin write fails -/

/-- An operation has left a state that waits for a pin write, or one in which cache and pins agree. -/
def State.settled (s : State) : Prop := s.seqStep.onPin = true ∨ s.agrees

/-- The second pin write, the first pin being at the target's level already. -/
theorem pinA1Answered_settled {s : State} {m : Mode} (use : SelectUse) (hok : ∀ a ∈ s.pinAnswers, a = .ok)
    (ha0 : s.pinA0 = (pinsOf s.cfg m).a0) : (s.pinA1Answered m use).settled := by
  rcases pinA1Answered_cases s m use with ⟨-, h⟩ | ⟨e, rest, hans, -⟩ | ⟨rest, -, h⟩
  · rw [h]; exact .inl rfl
  · simp [hans] at hok
  · rw [h]
    refine .inr (agrees_of_selection_eq (selected_selection _ _) ?_)
    rintro m' hm'
    cases hm'
    exact ⟨ha0, rfl⟩

/-- The first pin write and what follows it. -/
theorem pinA0Answered_settled {s : State} (m : Mode) (use : SelectUse) (hok : ∀ a ∈ s.pinAnswers, a = .ok) :
    (s.pinA0Answered m use).settled := by
  rcases pinA0Answered_cases s m use with ⟨-, h⟩ | ⟨e, rest, hans, -⟩ | ⟨rest, hans, h⟩
  · rw [h]; exact .inl rfl
  · simp [hans] at hok
  · rw [h]
    exact pinA1Answered_settled use (fun a ha => hok a (hans ▸ List.mem_cons_of_mem _ ha)) rfl

/-- A mode selection and what follows it, from a state in which cache and pins agree. -/
theorem selectOrRefuse_settled {s : State} (named : Option Mode) (use : SelectUse) (hs : s.agrees)
    (hok : ∀ a ∈ s.pinAnswers, a = .ok) : (s.selectOrRefuse named use).settled := by
  cases named with
  | none => exact .inr hs
  | some m =>
    by_cases hit : s.modeCache = some m
    · simp only [State.selectOrRefuse, State.selectMode, hit, if_true]
      exact .inr (agrees_of_selection_eq (selected_selection _ _) hs)
    · simp only [State.selectOrRefuse, State.selectMode, hit, if_false]
      exact pinA0Answered_settled m use hok

/-- Every operation, its pin answers all Ok, keeps the agreement of cache and pins or waits for a pin. -/
theorem exec_settled {i : Instr} {s t : State} (hs : s.agrees) (hok : ∀ a ∈ s.pinAnswers, a = .ok)
    (h : exec i s = .next t) : t.settled := by
  have select (named use) : (s.start.selectOrRefuse named use).settled := selectOrRefuse_settled named use hs hok
  cases i with
  | msel mode => obtain ⟨-, rfl⟩ := (exec_msel_iff ..).1 h; exact select _ _
  | mrd addr => obtain ⟨-, rfl⟩ := (exec_mrd_iff ..).1 h; exact select _ _
  | mwr addr value => obtain ⟨-, rfl⟩ := (exec_mwr_iff ..).1 h; exact select _ _
  | mch mode => obtain ⟨-, rfl⟩ := (exec_mch_iff ..).1 h; exact select _ _
  | crc5 | crcchk | fenc | fdec | frd | fwr | fupd =>
    exact .inr (agrees_of_selection_eq (exec_selection_of_not_usesPins rfl h) hs)

/-- Settles O34: a miss writes both pins and then the cache, and nothing else writes any of the three. -/
theorem cacheAndPinsAgreeWhileNoPinFails : Obligations.CacheAndPinsAgreeWhileNoPinFails := by
  intro i s t hs hok h hwait
  rcases exec_settled hs hok h with hpin | hagrees
  · simp [hwait] at hpin
  · exact hagrees

end Sys2Proof.Machine
end

section
/-! PROOFS. What no operation reads (10_state.md R12, R13, R15, R17): one relation of two runs, which every part of an
operation keeps, gives both noninterference statements. -/

namespace Sys2Proof.Machine

open Sys2Proof

/-! ### Two runs of one operation -/

/-- Two runs, from `p` to `s` and from `p'` to `s'`, agree: on everything an operation may act on; on the calls made and
the results delivered since; and, of the registers left open between operations (10_state.md R12, R13) and the pin
latches (R15), on each that `p` and `p'` agreed on. -/
structure AgreeSince (p p' s s' : State) : Prop where
  cfg : s.cfg = s'.cfg
  crcEn : s.crcEn = s'.crcEn
  modeCache : s.modeCache = s'.modeCache
  busy : s.busy = s'.busy
  seqStep : s.seqStep = s'.seqStep
  released : s.released = s'.released
  cmds : s.cmds = s'.cmds
  busAnswers : s.busAnswers = s'.busAnswers
  pinAnswers : s.pinAnswers = s'.pinAnswers
  calls : ∃ new, s.calls = p.calls ++ new ∧ s'.calls = p'.calls ++ new
  results : ∃ new, s.results = p.results ++ new ∧ s'.results = p'.results ++ new
  buf : p.buf = p'.buf → s.buf = s'.buf
  crcC : p.crcC = p'.crcC → s.crcC = s'.crcC
  crcR : p.crcR = p'.crcR → s.crcR = s'.crcR
  crcK : p.crcK = p'.crcK → s.crcK = s'.crcK
  pinA0 : p.pinA0 = p'.pinA0 → s.pinA0 = s'.pinA0
  pinA1 : p.pinA1 = p'.pinA1 → s.pinA1 = s'.pinA1

/-- Lists grown alike from two beginnings grow alike by one more entry. -/
theorem grown_alike_append {α : Type} {l l' k k' : List α} (x : α) (h : ∃ new, k = l ++ new ∧ k' = l' ++ new) :
    ∃ new, k ++ [x] = l ++ new ∧ k' ++ [x] = l' ++ new := by
  obtain ⟨new, rfl, rfl⟩ := h
  exact ⟨new ++ [x], List.append_assoc .., List.append_assoc ..⟩

namespace AgreeSince

variable {p p' s s' : State}

/-! #### The updates keep it -/

theorem setBuf (h : AgreeSince p p' s s') {b b' : Trio} (hb : p.buf = p'.buf → b = b') :
    AgreeSince p p' (s.setBuf b) (s'.setBuf b') := { h with buf := hb }

theorem runCrc (h : AgreeSince p p' s s') (high mid low : Byte) :
    AgreeSince p p' (s.runCrc high mid low) (s'.runCrc high mid low) :=
  { h with crcC := fun _ => rfl, crcR := fun _ => rfl, crcK := fun _ => rfl }

theorem setCache (h : AgreeSince p p' s s') (m : Mode) : AgreeSince p p' (s.setCache m) (s'.setCache m) :=
  { h with modeCache := rfl }

theorem setPinA0 (h : AgreeSince p p' s s') (v : Bool) : AgreeSince p p' (s.setPinA0 v) (s'.setPinA0 v) :=
  { h with pinA0 := fun _ => rfl }

theorem setPinA1 (h : AgreeSince p p' s s') (v : Bool) : AgreeSince p p' (s.setPinA1 v) (s'.setPinA1 v) :=
  { h with pinA1 := fun _ => rfl }

theorem issue (h : AgreeSince p p' s s') (c : Call) : AgreeSince p p' (s.issue c) (s'.issue c) :=
  { h with calls := grown_alike_append c h.calls }

theorem waitAt (h : AgreeSince p p' s s') (here : SeqStep) : AgreeSince p p' (s.waitAt here) (s'.waitAt here) :=
  { h with seqStep := rfl }

theorem dropBus (h : AgreeSince p p' s s') (rest : List BusAnswer) :
    AgreeSince p p' (s.dropBus rest) (s'.dropBus rest) := { h with busAnswers := rfl }

theorem dropPin (h : AgreeSince p p' s s') (rest : List PinAnswer) :
    AgreeSince p p' (s.dropPin rest) (s'.dropPin rest) := { h with pinAnswers := rfl }

theorem goIdle (h : AgreeSince p p' s s') : AgreeSince p p' s.goIdle s'.goIdle :=
  { h with busy := rfl, seqStep := rfl }

theorem deliver (h : AgreeSince p p' s s') (r : Result) : AgreeSince p p' (s.deliver r) (s'.deliver r) :=
  { h with results := grown_alike_append r h.results }

theorem finish (h : AgreeSince p p' s s') (v : Value) : AgreeSince p p' (s.finish v) (s'.finish v) :=
  h.goIdle.deliver _

theorem raise (h : AgreeSince p p' s s') (f : OpFault) : AgreeSince p p' (s.raise f) (s'.raise f) :=
  h.goIdle.deliver _

/-! #### Awaiting an answer keeps it -/

theorem awaitBus (h : AgreeSince p p' s s') (here : SeqStep) {k k' : Trio → State → State}
    (hk : ∀ rx rest, AgreeSince p p' (k rx (s.dropBus rest)) (k' rx (s'.dropBus rest))) :
    AgreeSince p p' (s.awaitBus here k) (s'.awaitBus here k') := by
  rcases awaitBus_cases s here k with ⟨ha, hs⟩ | ⟨e, rest, ha, hs⟩ | ⟨rx, rest, ha, hs⟩ <;> rw [hs]
  · rw [awaitBus_nil (h.busAnswers ▸ ha)]
    exact h.waitAt here
  · rw [awaitBus_ioError (h.busAnswers ▸ ha)]
    exact (h.dropBus rest).raise _
  · rw [awaitBus_ok (h.busAnswers ▸ ha)]
    exact hk rx rest

theorem awaitPin (h : AgreeSince p p' s s') (here : SeqStep) {k k' : State → State}
    (hk : ∀ rest, AgreeSince p p' (k (s.dropPin rest)) (k' (s'.dropPin rest))) :
    AgreeSince p p' (s.awaitPin here k) (s'.awaitPin here k') := by
  rcases awaitPin_cases s here k with ⟨ha, hs⟩ | ⟨e, rest, ha, hs⟩ | ⟨rest, ha, hs⟩ <;> rw [hs]
  · rw [awaitPin_nil (h.pinAnswers ▸ ha)]
    exact h.waitAt here
  · rw [awaitPin_pinError (h.pinAnswers ▸ ha)]
    exact (h.dropPin rest).raise _
  · rw [awaitPin_ok (h.pinAnswers ▸ ha)]
    exact hk rest

end AgreeSince

/-! ### Nothing is read from the buffer but what was put there -/

/-- The CRC unit's output depends on its input alone (40_crc5.md R71). -/
@[simp] theorem runCrc_crcOut (s : State) (h m l : Byte) :
    (s.runCrc h m l).crcOut = (crcEvaluate h m l).r.setWidth 5 := by
  rw [State.crcOut, State.runCrc_crcR]

/-- Sending a loaded frame sends just the bytes loaded (20_memory.md R37): not the third byte of the buffer, which a
frame of two bytes leaves as it was. -/
theorem issueXfer_loadFrame (s : State) (b0 b1 b2 : Byte) :
    (s.loadFrame b0 b1 b2).issueXfer (s.loadFrame b0 b1 b2).frameLen =
      (s.loadFrame b0 b1 b2).issue (frameCall s.crcEn b0 b1 b2) := by
  unfold State.issueXfer
  rw [State.loadFrame_buf, State.frameLen, State.loadFrame_crcEn]
  cases s.crcEn <;> rfl

/-- A received frame fills the bytes of its length (20_memory.md R37). -/
theorem receiveInto_frameLen (t rx : Trio) (crcEn : Bool) :
    receiveInto t rx (frameLen crcEn) = ⟨rx.b0, rx.b1, if crcEn then rx.b2 else t.b2⟩ := by
  cases crcEn <;> rfl

namespace AgreeSince

variable {p p' s s' : State}

/-- Loading and sending a frame. -/
theorem sendFrame (h : AgreeSince p p' s s') (b0 b1 b2 : Byte) :
    AgreeSince p p' ((s.loadFrame b0 b1 b2).issueXfer (s.loadFrame b0 b1 b2).frameLen)
      ((s'.loadFrame b0 b1 b2).issueXfer (s'.loadFrame b0 b1 b2).frameLen) := by
  rw [issueXfer_loadFrame, issueXfer_loadFrame, h.crcEn]
  refine (h.setBuf fun hp => ?_).issue _
  rw [h.crcEn, h.buf hp]

/-- Sending one byte (42_modepin.md R101). -/
theorem sendByte (h : AgreeSince p p' s s') (b : Byte) : AgreeSince p p' (s.sendByte b) (s'.sendByte b) :=
  (h.setBuf fun hp => by rw [h.buf hp]).issue (byteCall b)

/-! ### The framed register transport (41_frame.md) -/

theorem finishDecode (h : AgreeSince p p' s s') (b0 b1 : Byte) :
    AgreeSince p p' (s.finishDecode b0 b1) (s'.finishDecode b0 b1) := by
  unfold State.finishDecode
  rw [h.cfg]
  exact h.finish _

theorem writeAnswered (h : AgreeSince p p' s s') (use : WriteUse) :
    AgreeSince p p' (s.writeAnswered use) (s'.writeAnswered use) :=
  h.awaitBus _ fun _ rest => (h.dropBus rest).finish 0

/-- Loading and sending a write frame. -/
theorem sendWriteFrame (h : AgreeSince p p' s s') (addr value : Byte) :
    AgreeSince p p' ((s.loadWriteFrame addr value).issueXfer (s.loadWriteFrame addr value).frameLen)
      ((s'.loadWriteFrame addr value).issueXfer (s'.loadWriteFrame addr value).frameLen) := by
  simp only [State.loadWriteFrame, runCrc_crcOut, h.cfg, h.crcEn]
  split
  · exact (h.runCrc _ _ _).sendFrame _ _ _
  · exact h.sendFrame _ _ _

theorem writeRegister (h : AgreeSince p p' s s') (addr value : Byte) (use : WriteUse) :
    AgreeSince p p' (s.writeRegister addr value use) (s'.writeRegister addr value use) := by
  simp only [State.writeRegister, h.cfg]
  split
  · exact (h.sendWriteFrame addr value).writeAnswered use
  · exact h.raise _

theorem readDone (h : AgreeSince p p' s s') (h1 : s.buf.b1 = s'.buf.b1) (addr : Byte) (use : ReadUse) :
    AgreeSince p p' (s.readDone addr use) (s'.readDone addr use) := by
  cases use with
  | frd => simpa only [State.readDone, h1] using h.finish _
  | fupd mask value => simpa only [State.readDone, h1] using h.writeRegister _ _ _

/-- The check of a received frame reads the bytes just received, the third only if there is one (41_frame.md R82). -/
theorem readChecked (h : AgreeSince p p' s s') (h0 : s.buf.b0 = s'.buf.b0) (h1 : s.buf.b1 = s'.buf.b1)
    (h2 : s'.crcEn = true → s.buf.b2 = s'.buf.b2) (addr : Byte) (use : ReadUse) :
    AgreeSince p p' (s.readChecked addr use) (s'.readChecked addr use) := by
  simp only [State.readChecked, h.crcEn, h.cfg, runCrc_crcOut, State.runCrc_buf]
  split
  case isTrue hcrc =>
    rw [h0, h1, h2 hcrc]
    split
    · exact (h.runCrc _ _ _).readDone h1 addr use
    · exact (h.runCrc _ _ _).raise _
  case isFalse => exact h.readDone h1 addr use

theorem readAnswered (h : AgreeSince p p' s s') (addr : Byte) (use : ReadUse) :
    AgreeSince p p' (s.readAnswered addr use) (s'.readAnswered addr use) := by
  refine h.awaitBus _ fun rx rest => ?_
  have received : AgreeSince p p'
      ((s.dropBus rest).setBuf ⟨rx.b0, rx.b1, if s.crcEn then rx.b2 else s.buf.b2⟩)
      ((s'.dropBus rest).setBuf ⟨rx.b0, rx.b1, if s'.crcEn then rx.b2 else s'.buf.b2⟩) :=
    (h.dropBus rest).setBuf fun hp => by rw [h.crcEn, h.buf hp]
  simp only [State.frameLen, receiveInto_frameLen]
  refine received.readChecked rfl rfl (fun hcrc => ?_) addr use
  rw [State.setBuf_crcEn, State.dropBus_crcEn] at hcrc
  simp [h.crcEn, hcrc]

theorem readRegister (h : AgreeSince p p' s s') (addr : Byte) (use : ReadUse) :
    AgreeSince p p' (s.readRegister addr use) (s'.readRegister addr use) := by
  simp only [State.readRegister, h.cfg]
  split
  · exact (h.sendFrame _ _ _).readAnswered addr use
  · exact h.raise _

/-! ### The mode-pin multiplexer (42_modepin.md) -/

theorem mrdSecondAnswered (h : AgreeSince p p' s s') : AgreeSince p p' s.mrdSecondAnswered s'.mrdSecondAnswered :=
  h.awaitBus _ fun _ rest => ((h.dropBus rest).setBuf fun hp => by simp [h.buf hp]).finish _

theorem mrdFirstAnswered (h : AgreeSince p p' s s') (addr : Byte) :
    AgreeSince p p' (s.mrdFirstAnswered addr) (s'.mrdFirstAnswered addr) :=
  h.awaitBus _ fun _ rest => ((h.dropBus rest).sendByte addr).mrdSecondAnswered

theorem mwrValueAnswered (h : AgreeSince p p' s s') : AgreeSince p p' s.mwrValueAnswered s'.mwrValueAnswered :=
  h.awaitBus _ fun _ rest => (h.dropBus rest).finish 0

theorem mwrAddrAnswered (h : AgreeSince p p' s s') (value : Byte) :
    AgreeSince p p' (s.mwrAddrAnswered value) (s'.mwrAddrAnswered value) :=
  h.awaitBus _ fun _ rest => ((h.dropBus rest).sendByte value).mwrValueAnswered

theorem mchAnswered (h : AgreeSince p p' s s') : AgreeSince p p' s.mchAnswered s'.mchAnswered :=
  h.awaitBus _ fun _ rest => ((h.dropBus rest).setBuf fun hp => by simp [h.buf hp]).finish _

theorem mchSend (h : AgreeSince p p' s s') : AgreeSince p p' s.mchSend s'.mchSend := by
  have zeroed : AgreeSince p p' (s.setBuf { s.buf with b0 := 0, b1 := 0 })
      (s'.setBuf { s'.buf with b0 := 0, b1 := 0 }) :=
    h.setBuf fun hp => by rw [h.buf hp]
  exact (zeroed.issue (.busXfer [0, 0] 2 true)).mchAnswered

theorem selected (h : AgreeSince p p' s s') (use : SelectUse) : AgreeSince p p' (s.selected use) (s'.selected use) := by
  cases use with
  | msel => exact h.finish 0
  | mrd addr => exact (h.sendByte addr).mrdFirstAnswered addr
  | mwr addr value => exact (h.sendByte addr).mwrAddrAnswered value
  | mch => exact h.mchSend

theorem pinA1Answered (h : AgreeSince p p' s s') (m : Mode) (use : SelectUse) :
    AgreeSince p p' (s.pinA1Answered m use) (s'.pinA1Answered m use) := by
  refine h.awaitPin _ fun rest => ?_
  simp only [State.dropPin_cfg, State.setPinA1_cfg, State.setCache_cfg, h.cfg]
  exact ((((h.dropPin rest).setPinA1 _).setCache m).issue _).selected use

theorem pinA0Answered (h : AgreeSince p p' s s') (m : Mode) (use : SelectUse) :
    AgreeSince p p' (s.pinA0Answered m use) (s'.pinA0Answered m use) := by
  refine h.awaitPin _ fun rest => ?_
  simp only [State.dropPin_cfg, State.setPinA0_cfg, h.cfg]
  exact (((h.dropPin rest).setPinA0 _).issue _).pinA1Answered m use

theorem selectOrRefuse (h : AgreeSince p p' s s') (named : Option Mode) (use : SelectUse) :
    AgreeSince p p' (s.selectOrRefuse named use) (s'.selectOrRefuse named use) := by
  cases named with
  | none => exact h.raise _
  | some m =>
    simp only [State.selectOrRefuse, State.selectMode, h.modeCache, h.cfg]
    split
    · exact h.selected use
    · exact (h.issue _).pinA0Answered m use

end AgreeSince

/-! ### The operations -/

/-- Every operation, started in two states alike, keeps them alike. -/
theorem exec_agreeSince {i : Instr} {s s' t : State} (hbusy : s.busy = s'.busy)
    (h : AgreeSince s s' s.start s'.start) (ht : exec i s = .next t) :
    ∃ t', exec i s' = .next t' ∧ AgreeSince s s' t t' := by
  have hcfg : s.cfg = s'.cfg := h.cfg
  have hcrcEn : s.crcEn = s'.crcEn := h.crcEn
  have hreleased : s.released = s'.released := h.released
  have ready (hs : s.Ready) : s'.Ready := by rwa [State.Ready, ← hbusy, ← hreleased]
  have pinReady (hs : s.PinReady) : s'.PinReady := ⟨ready hs.1, hcfg ▸ hs.2⟩
  cases i with
  | crc5 high mid low =>
    obtain ⟨hs, rfl⟩ := (exec_crc5_iff ..).1 ht
    refine ⟨_, (exec_crc5_iff ..).2 ⟨ready hs, rfl⟩, ?_⟩
    simpa only [runCrc_crcOut] using (h.runCrc high mid low).finish _
  | crcchk high mid low =>
    obtain ⟨hs, rfl⟩ := (exec_crcchk_iff ..).1 ht
    refine ⟨_, (exec_crcchk_iff ..).2 ⟨ready hs, rfl⟩, ?_⟩
    simpa only [runCrc_crcOut] using (h.runCrc high mid low).finish _
  | fenc rw addr value =>
    obtain ⟨hs, rfl⟩ := (exec_fenc_iff ..).1 ht
    refine ⟨_, (exec_fenc_iff ..).2 ⟨ready hs, rfl⟩, ?_⟩
    simp only [hcfg, hcrcEn, runCrc_crcOut]
    split
    · split
      · exact (h.runCrc _ _ _).finish _
      · exact h.finish _
    · exact h.raise _
  | fdec b0 b1 b2 =>
    obtain ⟨hs, rfl⟩ := (exec_fdec_iff ..).1 ht
    refine ⟨_, (exec_fdec_iff ..).2 ⟨ready hs, rfl⟩, ?_⟩
    simp only [hcrcEn, runCrc_crcOut]
    split
    · split
      · exact (h.runCrc _ _ _).finishDecode _ _
      · exact (h.runCrc _ _ _).raise _
    · exact h.finishDecode _ _
  | frd addr =>
    obtain ⟨hs, rfl⟩ := (exec_frd_iff ..).1 ht
    exact ⟨_, (exec_frd_iff ..).2 ⟨ready hs, rfl⟩, h.readRegister addr _⟩
  | fwr addr value =>
    obtain ⟨hs, rfl⟩ := (exec_fwr_iff ..).1 ht
    exact ⟨_, (exec_fwr_iff ..).2 ⟨ready hs, rfl⟩, h.writeRegister addr value _⟩
  | fupd addr mask value =>
    obtain ⟨hs, rfl⟩ := (exec_fupd_iff ..).1 ht
    exact ⟨_, (exec_fupd_iff ..).2 ⟨ready hs, rfl⟩, h.readRegister addr _⟩
  | msel mode =>
    obtain ⟨hs, rfl⟩ := (exec_msel_iff ..).1 ht
    exact ⟨_, (exec_msel_iff ..).2 ⟨pinReady hs, rfl⟩, h.selectOrRefuse _ _⟩
  | mrd addr =>
    obtain ⟨hs, rfl⟩ := (exec_mrd_iff ..).1 ht
    exact ⟨_, (exec_mrd_iff ..).2 ⟨pinReady hs, rfl⟩, hcfg ▸ h.selectOrRefuse _ _⟩
  | mwr addr value =>
    obtain ⟨hs, rfl⟩ := (exec_mwr_iff ..).1 ht
    exact ⟨_, (exec_mwr_iff ..).2 ⟨pinReady hs, rfl⟩, hcfg ▸ h.selectOrRefuse _ _⟩
  | mch mode =>
    obtain ⟨hs, rfl⟩ := (exec_mch_iff ..).1 ht
    exact ⟨_, (exec_mch_iff ..).2 ⟨pinReady hs, rfl⟩, hcfg ▸ h.selectOrRefuse _ _⟩

/-! ### The two statements -/

/-- Two states that agree on what an operation may act on are alike once an operation starts in them. -/
theorem agreeSince_start_of_visible_eq {s s' : State} (h : s.visible = s'.visible) :
    AgreeSince s s' s.start s'.start := by
  obtain ⟨hcfg, hcrcEn, hcache, -, -, -, hreleased, hcmds, hbus, hpin, -, -⟩ := (visible_eq_iff s s').1 h
  exact
    { cfg := hcfg, crcEn := hcrcEn, modeCache := hcache, busy := rfl, seqStep := rfl, released := hreleased
      cmds := hcmds, busAnswers := hbus, pinAnswers := hpin
      calls := ⟨[], by simp⟩, results := ⟨[], by simp⟩
      buf := id, crcC := id, crcR := id, crcK := id, pinA0 := id, pinA1 := id }

/-- Settles O46: the two runs agree on the visible part throughout, and the step index is written at the start. -/
theorem unspecifiedRegistersAreNeverReadBeforeWritten :
    Obligations.UnspecifiedRegistersAreNeverReadBeforeWritten := by
  intro i s s' t hvis ht
  obtain ⟨-, -, -, ha0, ha1, hbusy, -, -, -, -, hcalls, hresults⟩ := (visible_eq_iff s s').1 hvis
  obtain ⟨t', ht', h⟩ := exec_agreeSince hbusy (agreeSince_start_of_visible_eq hvis) ht
  obtain ⟨newCalls, hc, hc'⟩ := h.calls
  obtain ⟨newResults, hr, hr'⟩ := h.results
  refine ⟨t', ht', (visible_eq_iff t t').2 ?_, h.seqStep⟩
  exact ⟨h.cfg, h.crcEn, h.modeCache, h.pinA0 ha0, h.pinA1 ha1, h.busy, h.released, h.cmds, h.busAnswers, h.pinAnswers,
    by rw [hc, hc', hcalls], by rw [hr, hr', hresults]⟩

/-- The state with other pin latches, calls and results in the place of its own. -/
def State.withLogs (s : State) (a0 a1 : Bool) (cs : List Call) (rs : List Result) : State :=
  { s with pinA0 := a0, pinA1 := a1, calls := cs, results := rs }

/-- A state and the same with other latches, calls and results are alike once an operation starts in them. -/
theorem agreeSince_start_withLogs (s : State) (a0 a1 : Bool) (cs : List Call) (rs : List Result) :
    AgreeSince s (s.withLogs a0 a1 cs rs) s.start (s.withLogs a0 a1 cs rs).start :=
  { cfg := rfl, crcEn := rfl, modeCache := rfl, busy := rfl, seqStep := rfl, released := rfl
    cmds := rfl, busAnswers := rfl, pinAnswers := rfl
    calls := ⟨[], by simp [State.start, State.withLogs]⟩, results := ⟨[], by simp [State.start, State.withLogs]⟩
    buf := id, crcC := id, crcR := id, crcK := id, pinA0 := id, pinA1 := id }

/-- States alike since starts with the same buffer and CRC registers differ in latches, calls and results alone. -/
theorem AgreeSince.eq_withLogs {p p' s s' : State} (h : AgreeSince p p' s s') (hbuf : p.buf = p'.buf)
    (hc : p.crcC = p'.crcC) (hr : p.crcR = p'.crcR) (hk : p.crcK = p'.crcK) :
    s' = s.withLogs s'.pinA0 s'.pinA1 s'.calls s'.results := by
  rw [State.withLogs, h.cfg, h.crcEn, h.modeCache, h.busy, h.seqStep, h.released, h.cmds, h.busAnswers, h.pinAnswers,
    h.buf hbuf, h.crcC hc, h.crcR hr, h.crcK hk]

/-- Settles O47: the runs start alike but for latches, calls and results, and then agree on all the rest. -/
theorem pinsAndEarlierResultsAreNeverRead : Obligations.PinsAndEarlierResultsAreNeverRead := by
  intro i s t a0 a1 cs rs ht
  have start := agreeSince_start_withLogs s a0 a1 cs rs
  obtain ⟨t', ht', h⟩ := exec_agreeSince (s := s) (s' := s.withLogs a0 a1 cs rs) rfl start ht
  obtain ⟨newCalls, hc, hc'⟩ := h.calls
  obtain ⟨newResults, hr, hr'⟩ := h.results
  exact ⟨t', newCalls, newResults, ht', hc, hc', hr, hr', h.eq_withLogs rfl rfl rfl rfl⟩

end Sys2Proof.Machine
end

section
/-! PROOFS. A block that is not busy runs the operation of the next command word (20_memory.md R39). -/

namespace Sys2Proof.Machine

open Sys2Proof

/-- The command taken is the oldest presented (30_encoding.md R61, log 1). -/
theorem nextCommand_cons {s : State} {w : Word} {rest : List Word} (h : s.cmds = w :: rest) :
    nextCommand s = some (w, { s with cmds := rest }) := by
  simp [nextCommand, h]

/-- With no command presented there is none to take. -/
theorem nextCommand_nil {s : State} (h : s.cmds = []) : nextCommand s = none := by
  simp [nextCommand, h]

/-- An idle block runs the operation its next command word names. -/
theorem step_of_decode_ok {s : State} {w : Word} {rest : List Word} {i : Instr} (hbusy : s.busy = false)
    (hcmds : s.cmds = w :: rest) (hw : decode w = .ok i) : step s = exec i { s with cmds := rest } := by
  simp [step, hbusy, nextCommand_cons hcmds, hw]

/-- An idle block rejects a reserved command word (30_encoding.md R63). -/
theorem step_of_decode_error {s : State} {w : Word} {rest : List Word} {e : DecodeError} (hbusy : s.busy = false)
    (hcmds : s.cmds = w :: rest) (hw : decode w = .error e) : step s = rejectReserved { s with cmds := rest } := by
  simp [step, hbusy, nextCommand_cons hcmds, hw]

/-- An idle block with no command presented stays as it is (60_exceptions.md R126). -/
theorem step_of_no_command {s : State} (hbusy : s.busy = false) (hcmds : s.cmds = []) : step s = .next s := by
  simp [step, hbusy, nextCommand_nil hcmds]

/-- Settles O8: the two branches of the step of an idle block. -/
theorem stepRunsTheDecodedOperation : Obligations.StepRunsTheDecodedOperation :=
  ⟨fun _ _ _ _ => step_of_decode_ok, fun _ => step_of_no_command⟩

end Sys2Proof.Machine
end

section
/-! PROOFS. Every step keeps the invariant (20_memory.md R39): what holds while an operation runs, what holds where it
waits for an answer, and for each part of an operation that the invariant holds where that part stops. -/

namespace Sys2Proof.Machine

open Sys2Proof

/-! ### An operation that runs -/

/-- The part of the invariant that holds all through an operation, between its calls too: what it says of the
parameters, of the calls made and of the results delivered. -/
structure State.Running (s : State) : Prop where
  busy : s.busy = true
  params : s.cfg.wf = true
  exact : ∀ c ∈ s.calls, c.exact s.crcEn = true
  noResource : Result.fault .resource ∉ s.results
  integrity : Result.fault .integrity ∈ s.results → s.crcEn = true

/-- The block can deliver the fault: no ResourceFault (60_exceptions.md R124), IntegrityFault only with integrity
checking (R122). -/
def OpFault.deliverable (crcEn : Bool) (f : OpFault) : Prop := f ≠ .resource ∧ (f = .integrity → crcEn = true)

theorem io_deliverable (crcEn : Bool) (e : ErrToken) : OpFault.deliverable crcEn (.io e) := by
  simp [OpFault.deliverable]

theorem config_deliverable (crcEn : Bool) : OpFault.deliverable crcEn .config := by
  simp [OpFault.deliverable]

theorem integrity_deliverable {crcEn : Bool} (h : crcEn = true) : OpFault.deliverable crcEn .integrity := by
  simp [OpFault.deliverable, h]

/-- An exchange of the first bytes of a buffer is exact at the lengths of 20_memory.md R37. -/
theorem exact_busXfer_sentBytes {crcEn : Bool} (t : Trio) {n : Nat} (hn : n = 1 ∨ n = 2 ∨ n = 3 ∧ crcEn = true) :
    (Call.busXfer (sentBytes t n) n true).exact crcEn = true := by
  simpa [Call.exact, sentBytes_length t n (by omega), or_assoc] using hn

/-- The frame length is a length of 20_memory.md R37. -/
theorem frameLen_admitted (s : State) : s.frameLen = 1 ∨ s.frameLen = 2 ∨ s.frameLen = 3 ∧ s.crcEn = true := by
  rw [frameLen_cases]
  split
  case isTrue hcrc => exact .inr (.inr ⟨rfl, hcrc⟩)
  case isFalse => exact .inr (.inl rfl)

/-- An operation taken up from a state of the invariant runs. -/
theorem State.Inv.start {s : State} (h : s.Inv) : s.start.Running := { h with busy := rfl }

/-- What a step asks of the state rests on the parameters and the mode cache alone. -/
theorem fits_congr {s t : State} (hcfg : t.cfg = s.cfg) (hcache : t.modeCache = s.modeCache) (p : SeqStep) :
    p.fits t = p.fits s := by
  cases p <;> simp [SeqStep.fits, hcfg, hcache]

/-- The running operation has issued a call, which the step `p` awaits, and `p` fits the cache and the parameters. -/
structure State.StandsAt (s : State) (p : SeqStep) : Prop where
  running : s.Running
  fits : p.fits s = true
  awaited : ∃ c, s.calls.getLast? = some c ∧ p.awaits c = true

namespace State.Running

variable {s : State}

/-! #### The updates keep it -/

theorem setBuf (h : s.Running) (b : Trio) : (s.setBuf b).Running := { h with }
theorem loadFrame (h : s.Running) (b0 b1 b2 : Byte) : (s.loadFrame b0 b1 b2).Running := h.setBuf _
theorem runCrc (h : s.Running) (high mid low : Byte) : (s.runCrc high mid low).Running := { h with }
theorem setCache (h : s.Running) (m : Mode) : (s.setCache m).Running := { h with }
theorem setPinA0 (h : s.Running) (v : Bool) : (s.setPinA0 v).Running := { h with }
theorem setPinA1 (h : s.Running) (v : Bool) : (s.setPinA1 v).Running := { h with }
theorem dropBus (h : s.Running) (rest : List BusAnswer) : (s.dropBus rest).Running := { h with }
theorem dropPin (h : s.Running) (rest : List PinAnswer) : (s.dropPin rest).Running := { h with }

theorem issue (h : s.Running) {c : Call} (hc : c.exact s.crcEn = true) : (s.issue c).Running := by
  refine { h with exact := fun c' hc' => ?_ }
  rcases List.mem_append.1 hc' with hold | hnew
  · exact h.exact c' hold
  · rwa [List.mem_singleton.1 hnew]

/-! #### Its end -/

theorem finish_inv (h : s.Running) (v : Value) : (s.finish v).Inv where
  params := h.params
  sequencer := by simp
  fits := rfl
  awaited := by simp
  exact := h.exact
  noResource := by simp [h.noResource]
  integrity := by simpa using h.integrity

theorem raise_inv (h : s.Running) {f : OpFault} (hf : f.deliverable s.crcEn) : (s.raise f).Inv where
  params := h.params
  sequencer := by simp
  fits := rfl
  awaited := by simp
  exact := h.exact
  noResource := by simpa using ⟨h.noResource, hf.1.symm⟩
  integrity hmem := by
    rw [State.raise_results, List.mem_append, List.mem_singleton, Result.fault.injEq] at hmem
    exact hmem.elim h.integrity fun hnew => hf.2 hnew.symm

/-! #### Its calls -/

theorem issue_standsAt (h : s.Running) (p : SeqStep) {c : Call} (hc : c.exact s.crcEn = true)
    (hfits : p.fits s = true) (hp : p.awaits c = true) : (s.issue c).StandsAt p where
  running := h.issue hc
  fits := (fits_congr rfl rfl p).trans hfits
  awaited := ⟨c, by simp, hp⟩

theorem issueXfer_standsAt (h : s.Running) (p : SeqStep) {n : Nat}
    (hn : n = 1 ∨ n = 2 ∨ n = 3 ∧ s.crcEn = true) (hfits : p.fits s = true) (hp : p.onBus = true) :
    (s.issueXfer n).StandsAt p :=
  h.issue_standsAt p (exact_busXfer_sentBytes s.buf hn) hfits hp

theorem sendByte_standsAt (h : s.Running) (p : SeqStep) (b : Byte) (hfits : p.fits s = true) (hp : p.onBus = true) :
    (s.sendByte b).StandsAt p :=
  (h.setBuf { s.buf with b0 := b }).issueXfer_standsAt p (.inl rfl) ((fits_congr rfl rfl p).trans hfits) hp

end State.Running

/-! ### Waiting for an answer -/

/-- A state of the invariant in which an operation waits stands at the step it waits at. -/
theorem State.Inv.standsAt {s : State} (h : s.Inv) (hbusy : s.busy = true) : s.StandsAt s.seqStep :=
  ⟨{ h with busy := hbusy }, h.fits, h.awaited hbusy⟩

/-- No call is awaited at the first step. -/
theorem awaits_first (c : Call) : SeqStep.first.awaits c = false := by
  cases c <;> rfl

namespace State.StandsAt

variable {s : State} {p : SeqStep}

theorem ne_first (h : s.StandsAt p) : p ≠ .first := by
  rintro rfl
  obtain ⟨c, -, hc⟩ := h.awaited
  simp [awaits_first] at hc

theorem waitAt_inv (h : s.StandsAt p) : (s.waitAt p).Inv :=
  { h.running with
    sequencer := by simp [h.running.busy, h.ne_first]
    fits := (fits_congr rfl rfl p).trans h.fits
    awaited := fun _ => h.awaited }

theorem awaitBus_inv (h : s.StandsAt p) {k : Trio → State → State} (hk : ∀ rx rest, (k rx (s.dropBus rest)).Inv) :
    (s.awaitBus p k).Inv := by
  rcases awaitBus_cases s p k with ⟨-, hs⟩ | ⟨e, rest, -, hs⟩ | ⟨rx, rest, -, hs⟩ <;> rw [hs]
  · exact h.waitAt_inv
  · exact (h.running.dropBus rest).raise_inv (io_deliverable _ e)
  · exact hk rx rest

theorem awaitPin_inv (h : s.StandsAt p) {k : State → State} (hk : ∀ rest, (k (s.dropPin rest)).Inv) :
    (s.awaitPin p k).Inv := by
  rcases awaitPin_cases s p k with ⟨-, hs⟩ | ⟨e, rest, -, hs⟩ | ⟨rest, -, hs⟩ <;> rw [hs]
  · exact h.waitAt_inv
  · exact (h.running.dropPin rest).raise_inv (io_deliverable _ e)
  · exact hk rest

end State.StandsAt

/-! ### The framed register transport (41_frame.md) -/

section
variable {s : State}

theorem State.StandsAt.writeAnswered_inv {use : WriteUse} (h : s.StandsAt (.writeXfer use)) :
    (s.writeAnswered use).Inv :=
  h.awaitBus_inv fun _ rest => (h.running.dropBus rest).finish_inv 0

theorem State.Running.loadWriteFrame (h : s.Running) (addr value : Byte) : (s.loadWriteFrame addr value).Running := by
  unfold State.loadWriteFrame
  split
  · exact (h.runCrc _ _ _).loadFrame _ _ _
  · exact h.loadFrame _ _ _

theorem State.Running.writeRegister_inv (h : s.Running) (addr value : Byte) (use : WriteUse) :
    (s.writeRegister addr value use).Inv := by
  unfold State.writeRegister
  split
  · have sent := (h.loadWriteFrame addr value).issueXfer_standsAt (.writeXfer use) (frameLen_admitted _) rfl rfl
    exact sent.writeAnswered_inv
  · exact h.raise_inv (config_deliverable _)

theorem State.Running.readDone_inv (h : s.Running) (addr : Byte) (use : ReadUse) : (s.readDone addr use).Inv := by
  cases use with
  | frd => exact h.finish_inv _
  | fupd mask value => exact h.writeRegister_inv _ _ _

/-- IntegrityFault is raised only where the check is made, with integrity checking (60_exceptions.md R122). -/
theorem State.Running.readChecked_inv (h : s.Running) (addr : Byte) (use : ReadUse) : (s.readChecked addr use).Inv := by
  unfold State.readChecked
  split
  case isTrue hcrc =>
    dsimp only
    split
    · exact (h.runCrc _ _ _).readDone_inv addr use
    · exact (h.runCrc _ _ _).raise_inv (integrity_deliverable hcrc)
  case isFalse => exact h.readDone_inv addr use

theorem State.StandsAt.readAnswered_inv {addr : Byte} {use : ReadUse} (h : s.StandsAt (.readXfer addr use)) :
    (s.readAnswered addr use).Inv :=
  h.awaitBus_inv fun _ rest => ((h.running.dropBus rest).setBuf _).readChecked_inv addr use

theorem State.Running.readRegister_inv (h : s.Running) (addr : Byte) (use : ReadUse) :
    (s.readRegister addr use).Inv := by
  unfold State.readRegister
  split
  case isTrue haddr =>
    have sent := (h.loadFrame (ctrl s.cfg false addr) 0 0).issueXfer_standsAt (.readXfer addr use) (frameLen_admitted _)
      haddr rfl
    exact sent.readAnswered_inv
  case isFalse => exact h.raise_inv (config_deliverable _)

/-! ### The mode-pin multiplexer (42_modepin.md) -/

theorem State.StandsAt.mrdSecondAnswered_inv (h : s.StandsAt .mrdSecond) : s.mrdSecondAnswered.Inv :=
  h.awaitBus_inv fun rx rest => ((h.running.dropBus rest).setBuf { s.buf with b0 := rx.b0 }).finish_inv _

theorem State.StandsAt.mrdFirstAnswered_inv {addr : Byte} (h : s.StandsAt (.mrdFirst addr)) :
    (s.mrdFirstAnswered addr).Inv :=
  h.awaitBus_inv fun _ rest =>
    ((h.running.dropBus rest).sendByte_standsAt .mrdSecond addr h.fits rfl).mrdSecondAnswered_inv

theorem State.StandsAt.mwrValueAnswered_inv (h : s.StandsAt .mwrValue) : s.mwrValueAnswered.Inv :=
  h.awaitBus_inv fun _ rest => (h.running.dropBus rest).finish_inv 0

theorem State.StandsAt.mwrAddrAnswered_inv {value : Byte} (h : s.StandsAt (.mwrAddr value)) :
    (s.mwrAddrAnswered value).Inv :=
  h.awaitBus_inv fun _ rest =>
    ((h.running.dropBus rest).sendByte_standsAt .mwrValue value h.fits rfl).mwrValueAnswered_inv

theorem State.StandsAt.mchAnswered_inv (h : s.StandsAt .mchXfer) : s.mchAnswered.Inv :=
  h.awaitBus_inv fun _ rest => ((h.running.dropBus rest).setBuf _).finish_inv _

theorem State.Running.mchSend_inv (h : s.Running) (hfits : SeqStep.mchXfer.fits s = true) : s.mchSend.Inv :=
  ((h.setBuf { s.buf with b0 := 0, b1 := 0 }).issueXfer_standsAt .mchXfer (.inr (.inl rfl)) hfits rfl).mchAnswered_inv

/-- Mode before bus cycle (70_reset_and_hazards.md R145): the exchanges that follow a selection are made with the mode
they need in the cache. -/
theorem State.Running.selected_inv (h : s.Running) {m : Mode} {use : SelectUse} (hcache : s.modeCache = some m)
    (hpins : s.cfg.modePinsPresent = true) (huse : use.fits m = true) : (s.selected use).Inv := by
  cases use with
  | msel => exact h.finish_inv 0
  | mrd addr =>
    obtain rfl : m = .config := by simpa [SelectUse.fits] using huse
    exact (h.sendByte_standsAt (.mrdFirst addr) addr (by simp [SeqStep.fits, hcache, hpins]) rfl).mrdFirstAnswered_inv
  | mwr addr value =>
    obtain rfl : m = .config := by simpa [SelectUse.fits] using huse
    exact (h.sendByte_standsAt (.mwrAddr value) addr (by simp [SeqStep.fits, hcache, hpins]) rfl).mwrAddrAnswered_inv
  | mch =>
    have hfits : SeqStep.mchXfer.fits s = true := by
      cases m with
      | config => cases huse
      | position | velocity => simp [SeqStep.fits, hcache, hpins]
    exact h.mchSend_inv hfits

/-- A step that waits for a pin write stands on a miss, for a mode that fits what follows, where there are pins. -/
theorem pinA1_fits_iff (s : State) (m : Mode) (use : SelectUse) :
    (SeqStep.pinA1 m use).fits s = true ↔
      s.modeCache ≠ some m ∧ use.fits m = true ∧ s.cfg.modePinsPresent = true := by
  simp [SeqStep.fits, and_assoc]

theorem State.StandsAt.pinA1Answered_inv {m : Mode} {use : SelectUse} (h : s.StandsAt (.pinA1 m use)) :
    (s.pinA1Answered m use).Inv := by
  obtain ⟨-, huse, hpins⟩ := (pinA1_fits_iff s m use).1 h.fits
  refine h.awaitPin_inv fun rest => ?_
  exact ((((h.running.dropPin rest).setPinA1 _).setCache m).issue rfl).selected_inv rfl hpins huse

theorem State.StandsAt.pinA0Answered_inv {m : Mode} {use : SelectUse} (h : s.StandsAt (.pinA0 m use)) :
    (s.pinA0Answered m use).Inv :=
  h.awaitPin_inv fun rest =>
    (((h.running.dropPin rest).setPinA0 _).issue_standsAt (.pinA1 m use) rfl h.fits rfl).pinA1Answered_inv

/-- A selection of a mode that fits what follows it: the exchanges at once on a hit, the pin writes first on a miss. -/
theorem State.Running.selectMode_inv (h : s.Running) {m : Mode} {use : SelectUse}
    (hpins : s.cfg.modePinsPresent = true) (huse : use.fits m = true) : (s.selectMode m use).Inv := by
  unfold State.selectMode
  split
  case isTrue hhit => exact h.selected_inv hhit hpins huse
  case isFalse hmiss =>
    have hfits : (SeqStep.pinA0 m use).fits s = true := (pinA1_fits_iff s m use).2 ⟨hmiss, huse, hpins⟩
    exact (h.issue_standsAt (.pinA0 m use) rfl hfits rfl).pinA0Answered_inv

/-- A selection, made or refused, if every mode it may name fits what follows. -/
theorem State.Running.selectOrRefuse_inv (h : s.Running) {named : Option Mode} {use : SelectUse}
    (hpins : s.cfg.modePinsPresent = true) (huse : ∀ m, named = some m → use.fits m = true) :
    (s.selectOrRefuse named use).Inv := by
  cases named with
  | none => exact h.raise_inv (config_deliverable _)
  | some m => exact h.selectMode_inv hpins (huse m rfl)

end

/-- A register access selects CONFIG (42_modepin.md R101, R102). -/
theorem eq_config_of_configFor {c : Params} {addr : Byte} {m : Mode} (h : configFor c addr = some m) : m = .config := by
  unfold configFor at h
  split at h
  · exact (Option.some.inj h).symm
  · cases h

/-! ### The operations -/

/-- Every operation ends in the invariant or waits in it. -/
theorem exec_keeps_inv {i : Instr} {s t : State} (hs : s.Inv) (ht : exec i s = .next t) : t.Inv := by
  have h : s.start.Running := hs.start
  cases i with
  | crc5 high mid low => obtain ⟨-, rfl⟩ := (exec_crc5_iff ..).1 ht; exact (h.runCrc _ _ _).finish_inv _
  | crcchk high mid low => obtain ⟨-, rfl⟩ := (exec_crcchk_iff ..).1 ht; exact (h.runCrc _ _ _).finish_inv _
  | fenc rw addr value =>
    obtain ⟨-, rfl⟩ := (exec_fenc_iff ..).1 ht
    split
    · split
      · exact (h.runCrc _ _ _).finish_inv _
      · exact h.finish_inv _
    · exact h.raise_inv (config_deliverable _)
  | fdec b0 b1 b2 =>
    obtain ⟨-, rfl⟩ := (exec_fdec_iff ..).1 ht
    split
    case isTrue hcrc =>
      split
      · exact (h.runCrc _ _ _).finish_inv _
      · exact (h.runCrc _ _ _).raise_inv (integrity_deliverable hcrc)
    case isFalse => exact h.finish_inv _
  | frd addr => obtain ⟨-, rfl⟩ := (exec_frd_iff ..).1 ht; exact h.readRegister_inv _ _
  | fwr addr value => obtain ⟨-, rfl⟩ := (exec_fwr_iff ..).1 ht; exact h.writeRegister_inv _ _ _
  | fupd addr mask value => obtain ⟨-, rfl⟩ := (exec_fupd_iff ..).1 ht; exact h.readRegister_inv _ _
  | msel mode =>
    obtain ⟨hready, rfl⟩ := (exec_msel_iff ..).1 ht
    exact h.selectOrRefuse_inv hready.2 fun _ _ => rfl
  | mrd addr =>
    obtain ⟨hready, rfl⟩ := (exec_mrd_iff ..).1 ht
    exact h.selectOrRefuse_inv hready.2 fun m hm => by rw [eq_config_of_configFor hm]; rfl
  | mwr addr value =>
    obtain ⟨hready, rfl⟩ := (exec_mwr_iff ..).1 ht
    exact h.selectOrRefuse_inv hready.2 fun m hm => by rw [eq_config_of_configFor hm]; rfl
  | mch mode =>
    obtain ⟨hready, rfl⟩ := (exec_mch_iff ..).1 ht
    refine h.selectOrRefuse_inv hready.2 fun m hm => ?_
    obtain ⟨-, hdata, -⟩ := (channelOf_eq_some_iff _ _ _).1 hm
    simpa [SelectUse.fits] using hdata

/-- A reserved command word ends in ConfigFault, which the block can deliver. -/
theorem rejectReserved_keeps_inv {s t : State} (hs : s.Inv) (ht : rejectReserved s = .next t) : t.Inv := by
  obtain ⟨-, rfl⟩ := (accept_eq_next_iff ..).1 ht
  exact hs.start.raise_inv (config_deliverable _)

/-- A waiting operation goes on to its end or to the next call without an answer. -/
theorem State.StandsAt.resume_inv {s t : State} (h : s.StandsAt s.seqStep) (ht : resume s = .next t) :
    t.Inv := by
  unfold resume at ht
  generalize s.seqStep = p at h ht
  cases p with
  | first => cases ht
  | readXfer => cases ht; exact h.readAnswered_inv
  | writeXfer => cases ht; exact h.writeAnswered_inv
  | pinA0 => cases ht; exact h.pinA0Answered_inv
  | pinA1 => cases ht; exact h.pinA1Answered_inv
  | mrdFirst => cases ht; exact h.mrdFirstAnswered_inv
  | mrdSecond => cases ht; exact h.mrdSecondAnswered_inv
  | mwrAddr => cases ht; exact h.mwrAddrAnswered_inv
  | mwrValue => cases ht; exact h.mwrValueAnswered_inv
  | mchXfer => cases ht; exact h.mchAnswered_inv

/-- Taking a command leaves everything the invariant speaks of. -/
theorem State.Inv.takeCommand {s : State} (h : s.Inv) (rest : List Word) : State.Inv { s with cmds := rest } :=
  { h with fits := (fits_congr rfl rfl s.seqStep).trans h.fits }

/-- The invariant is met by a block that waits, too, and whose wait then ends: here for a register read, answered by an
error of the bus. -/
theorem witness_inv_of_waiting : ∃ s t, s.Inv ∧ s.busy = true ∧ step s = .next t ∧ t.results = [.fault (.io 7)] := by
  have running : (State.reset.start.dropBus [.ioError 7]).Running :=
    { busy := rfl, params := by decide, exact := by decide, noResource := by decide, integrity := fun _ => rfl }
  have stands := running.issueXfer_standsAt (.readXfer 5 .frd) (frameLen_admitted _) (by decide) rfl
  exact ⟨_, _, stands.waitAt_inv, rfl, rfl, rfl⟩

/-- Settles O44: a busy block goes on from the step it stands at, an idle one runs its next command or stays. -/
theorem everyStepKeepsTheInvariant : Obligations.EveryStepKeepsTheInvariant := by
  intro s t hs ht
  cases hbusy : s.busy with
  | true => exact (hs.standsAt hbusy).resume_inv (step_busy hbusy ▸ ht)
  | false =>
    cases hcmds : s.cmds with
    | nil =>
      rw [step_of_no_command hbusy hcmds] at ht
      cases ht
      exact hs
    | cons w rest =>
      cases hw : decode w with
      | ok i => exact exec_keeps_inv (hs.takeCommand rest) (step_of_decode_ok hbusy hcmds hw ▸ ht)
      | error e => exact rejectReserved_keeps_inv (hs.takeCommand rest) (step_of_decode_error hbusy hcmds hw ▸ ht)

end Sys2Proof.Machine
end

section
/-! PROOFS. The command word (30_encoding.md R61, R64): what a word's fields hold, when a word is an operation's command
word on the bits that operation uses, and when it decodes to it. -/

namespace Sys2Proof

/-! ### Reading a field of a word put together from fields -/

/-- A field below the place of a shifted value reads 0. -/
@[simp] theorem extractLsb'_shiftLeft_of_add_le {n start len k : Nat} (x : BitVec n) (h : start + len ≤ k) :
    (x <<< k).extractLsb' start len = 0#len := by
  apply BitVec.eq_of_getLsbD_eq
  intro i hi
  have : start + i < k := by omega
  simp [this]

/-- A field at or above the place of a shifted value reads that value's own bits. -/
@[simp] theorem extractLsb'_shiftLeft_of_le {n start len k : Nat} (x : BitVec n) (hk : k ≤ start)
    (hn : start + len ≤ n) : (x <<< k).extractLsb' start len = x.extractLsb' (start - k) len := by
  apply BitVec.eq_of_getLsbD_eq
  intro i hi
  have inWidth : start + i < n := by omega
  have atPlace : k ≤ start + i := by omega
  simp only [BitVec.getLsbD_extractLsb', BitVec.getLsbD_shiftLeft, Nat.sub_add_comm hk]
  simp [hi, inWidth, atPlace]

/-- A field above the width of a value reads 0. -/
@[simp] theorem extractLsb'_of_width_le {n start len : Nat} (x : BitVec n) (h : n ≤ start) :
    x.extractLsb' start len = 0#len := by
  apply BitVec.eq_of_getLsbD_eq
  intro i hi
  simp [BitVec.getLsbD_of_ge x (start + i) (by omega)]

/-! ### The fields of a command word -/

section
variable (op : BitVec 4) (mode : BitVec 2) (rw : Bool) (a b c : Byte)

@[simp] theorem modeField_commandWord : modeField (commandWord op mode rw a b c) = mode := by
  simp [modeField, commandWord, BitVec.extractLsb'_or, BitVec.extractLsb'_setWidth_of_le]

@[simp] theorem rwField_commandWord : rwField (commandWord op mode rw a b c) = rw := by
  simp [rwField, commandWord]

@[simp] theorem fieldA_commandWord : fieldA (commandWord op mode rw a b c) = a := by
  simp [fieldA, commandWord, BitVec.extractLsb'_or, BitVec.extractLsb'_setWidth_of_le]

@[simp] theorem fieldB_commandWord : fieldB (commandWord op mode rw a b c) = b := by
  simp [fieldB, commandWord, BitVec.extractLsb'_or, BitVec.extractLsb'_setWidth_of_le]

@[simp] theorem fieldC_commandWord : fieldC (commandWord op mode rw a b c) = c := by
  simp [fieldC, commandWord, BitVec.extractLsb'_or, BitVec.extractLsb'_setWidth_of_le]

end

/-- A command word holds its fields and nothing else. -/
theorem commandWord_inj {op op' : BitVec 4} {mode mode' : BitVec 2} {rw rw' : Bool} {a a' b b' c c' : Byte} :
    commandWord op mode rw a b c = commandWord op' mode' rw' a' b' c' ↔
      op = op' ∧ mode = mode' ∧ rw = rw' ∧ a = a' ∧ b = b' ∧ c = c' := by
  constructor
  · intro h
    exact ⟨by simpa [Laws.opField_commandWord] using congrArg opField h, by simpa using congrArg modeField h,
      by simpa using congrArg rwField h, by simpa using congrArg fieldA h, by simpa using congrArg fieldB h,
      by simpa using congrArg fieldC h⟩
  · rintro ⟨rfl, rfl, rfl, rfl, rfl, rfl⟩
    rfl

/-- A mask made of fields masks field by field, and drops the reserved bit 25. -/
theorem and_commandWord (w : Word) (op : BitVec 4) (mode : BitVec 2) (rw : Bool) (a b c : Byte) :
    w &&& commandWord op mode rw a b c =
      commandWord (opField w &&& op) (modeField w &&& mode) (rwField w && rw)
        (fieldA w &&& a) (fieldB w &&& b) (fieldC w &&& c) := by
  apply BitVec.eq_of_getLsbD_eq
  intro i hi
  interval_cases i <;> simp [commandWord, opField, modeField, rwField, fieldA, fieldB, fieldC]

/-! ### The bits an operation uses, by the operands it has -/

section
variable {w : Word} {op : BitVec 4} {mode : BitVec 2} {rw : Bool} {a b c : Byte}

/-- The bits of an operation of three bytes. -/
theorem and_threeBytes_eq_iff :
    w &&& 0xF0FFFFFF = commandWord op 0 false a b c ↔
      opField w = op ∧ fieldA w = a ∧ fieldB w = b ∧ fieldC w = c := by
  rw [show (0xF0FFFFFF : Word) = commandWord (.allOnes 4) 0 false (.allOnes 8) (.allOnes 8) (.allOnes 8) from rfl,
    and_commandWord, commandWord_inj]
  simp only [BitVec.and_allOnes]
  simp

/-- The bits of an operation of a direction, an address and a value. -/
theorem and_rwAddrValue_eq_iff :
    w &&& 0xF1FF00FF = commandWord op 0 rw a 0 c ↔
      opField w = op ∧ rwField w = rw ∧ fieldA w = a ∧ fieldC w = c := by
  rw [show (0xF1FF00FF : Word) = commandWord (.allOnes 4) 0 true (.allOnes 8) 0 (.allOnes 8) from rfl,
    and_commandWord, commandWord_inj]
  simp only [BitVec.and_allOnes]
  simp

/-- The bits of an operation of an address and a value. -/
theorem and_addrValue_eq_iff :
    w &&& 0xF0FF00FF = commandWord op 0 false a 0 c ↔ opField w = op ∧ fieldA w = a ∧ fieldC w = c := by
  rw [show (0xF0FF00FF : Word) = commandWord (.allOnes 4) 0 false (.allOnes 8) 0 (.allOnes 8) from rfl,
    and_commandWord, commandWord_inj]
  simp only [BitVec.and_allOnes]
  simp

/-- The bits of an operation of an address alone. -/
theorem and_addr_eq_iff : w &&& 0xF0FF0000 = commandWord op 0 false a 0 0 ↔ opField w = op ∧ fieldA w = a := by
  rw [show (0xF0FF0000 : Word) = commandWord (.allOnes 4) 0 false (.allOnes 8) 0 0 from rfl,
    and_commandWord, commandWord_inj]
  simp only [BitVec.and_allOnes]
  simp

/-- The bits of an operation of a mode code. -/
theorem and_mode_eq_iff :
    w &&& 0xFC000000 = commandWord op mode false 0 0 0 ↔ opField w = op ∧ modeField w = mode := by
  rw [show (0xFC000000 : Word) = commandWord (.allOnes 4) (.allOnes 2) false 0 0 0 from rfl,
    and_commandWord, commandWord_inj]
  simp only [BitVec.and_allOnes]
  simp

end

/-! ### When a word decodes to an operation -/

/-- The operand fields of the word hold the operands of the operation (30_encoding.md R61). -/
def Instr.operandsIn (w : Word) : Instr → Prop
  | .crc5 h m l => fieldA w = h ∧ fieldB w = m ∧ fieldC w = l
  | .fenc rw addr value => rwField w = rw ∧ fieldA w = addr ∧ fieldC w = value
  | .fdec b0 b1 b2 => fieldA w = b0 ∧ fieldB w = b1 ∧ fieldC w = b2
  | .frd addr => fieldA w = addr
  | .fwr addr value => fieldA w = addr ∧ fieldC w = value
  | .fupd addr mask value => fieldA w = addr ∧ fieldB w = mask ∧ fieldC w = value
  | .crcchk h m l => fieldA w = h ∧ fieldB w = m ∧ fieldC w = l
  | .msel mode => modeField w = mode
  | .mrd addr => fieldA w = addr
  | .mwr addr value => fieldA w = addr ∧ fieldC w = value
  | .mch mode => modeField w = mode

/-- A word agrees with an operation's command word on the bits it uses exactly when it holds the operation's code and
operands. -/
theorem and_usedBits_eq_encode_iff (w : Word) (i : Instr) :
    w &&& i.usedBits = encode i ↔ opField w = i.opcode ∧ i.operandsIn w := by
  cases i with
  | crc5 h m l => exact and_threeBytes_eq_iff
  | fenc rw addr value => exact and_rwAddrValue_eq_iff
  | fdec b0 b1 b2 => exact and_threeBytes_eq_iff
  | frd addr => exact and_addr_eq_iff
  | fwr addr value => exact and_addrValue_eq_iff
  | fupd addr mask value => exact and_threeBytes_eq_iff
  | crcchk h m l => exact and_threeBytes_eq_iff
  | msel mode => exact and_mode_eq_iff
  | mrd addr => exact and_addr_eq_iff
  | mwr addr value => exact and_addrValue_eq_iff
  | mch mode => exact and_mode_eq_iff

/-- A word decodes to an operation exactly when it holds the operation's code and operands (30_encoding.md R61). -/
theorem decode_eq_ok_iff (w : Word) (i : Instr) : decode w = .ok i ↔ opField w = i.opcode ∧ i.operandsIn w := by
  constructor
  · intro h
    unfold decode at h
    split at h <;> cases h
    all_goals exact ⟨‹_›, by simp [Instr.operandsIn]⟩
  · rintro ⟨hop, hargs⟩
    cases i <;> simp only [Instr.opcode, Instr.operandsIn] at hop hargs <;> simp [decode, hop, hargs]

/-- A word names no operation exactly when its code is reserved (30_encoding.md R63). -/
theorem decode_eq_error_iff (w : Word) :
    (∃ e, decode w = .error e) ↔ opField w = 0 ∨ 0xC#4 ≤ opField w := by
  unfold decode
  split <;> simp only [*, reduceCtorEq, exists_false, Except.error.injEq, exists_eq', true_iff, false_iff]
  case h_12 =>
    simp only [imp_false] at *
    bv_omega
  all_goals decide

/-- An operation's command word uses no bit but the operation's own. -/
theorem encode_and_usedBits (i : Instr) : encode i &&& i.usedBits = encode i := by
  rw [and_usedBits_eq_encode_iff]
  cases i <;> simp [encode, Laws.opField_commandWord, Instr.operandsIn]

/-- Settles O2: both sides say that the word holds the operation's code and operands. -/
theorem decodeReadsExactlyTheUsedBits : Obligations.DecodeReadsExactlyTheUsedBits := fun w i =>
  (decode_eq_ok_iff w i).trans (and_usedBits_eq_encode_iff w i).symm

/-- Settles O1: the command word of an operation agrees with itself on the bits the operation uses. -/
theorem decodeOfEncodeIsTheOperation : Obligations.DecodeOfEncodeIsTheOperation := fun i =>
  (decodeReadsExactlyTheUsedBits (encode i) i).2 (encode_and_usedBits i)

/-- Settles O3: each word is read by evaluating the decoder. -/
theorem commandWordsOfTheProgramsDecode : Obligations.CommandWordsOfTheProgramsDecode :=
  ⟨rfl, rfl, rfl, rfl, rfl⟩

end Sys2Proof

namespace Sys2Proof.Machine

open Sys2Proof

/-- A fault taken at the first step of an operation leaves a ready block as it was, but for the result. -/
theorem raise_start_of_ready {s : State} (h : s.Ready) (f : OpFault) :
    s.start.raise f = { s with seqStep := .first, results := s.results ++ [.fault f] } := by
  obtain ⟨hbusy, -⟩ := h
  cases s
  cases hbusy
  rfl

/-- Settles O4: a reserved word has no operation, so the block raises ConfigFault at once. -/
theorem reservedCommandIsAConfigFault : Obligations.ReservedCommandIsAConfigFault := by
  refine ⟨decode_eq_error_iff, fun s w rest hready hcmds hop => ?_⟩
  obtain ⟨e, hw⟩ := (decode_eq_error_iff w).2 hop
  have hready' : State.Ready { s with cmds := rest } := hready
  have hstep : step s = .next (State.raise (State.start { s with cmds := rest }) .config) :=
    (step_of_decode_error hready.1 hcmds hw).trans (accept_of_ready hready' _)
  exact ⟨_, hstep, raise_start_of_ready hready' .config⟩

end Sys2Proof.Machine
end

section
/-! PROOFS. The words of results and frames: the response word and the values in it (30_encoding.md R62), the composite
of the CRC codec (R54), the control byte of the decided layout (R51). -/

namespace Sys2Proof.Machine

open Sys2Proof

/-! ### The response word -/

theorem status_word_ok (v : Value) : (Result.word (.ok v)).extractLsb' 29 3 = 0 := by
  simp [Result.word, BitVec.extractLsb'_setWidth_of_le]

theorem value_word_ok (v : Value) : (Result.word (.ok v)).extractLsb' 0 24 = v := by
  simp [Result.word, BitVec.extractLsb'_setWidth_of_le]

theorem status_word_fault (f : OpFault) : (Result.word (.fault f)).extractLsb' 29 3 = f.status := by
  simp [Result.word, BitVec.extractLsb'_or, BitVec.extractLsb'_setWidth_of_le]

theorem value_word_fault (f : OpFault) : (Result.word (.fault f)).extractLsb' 0 24 = f.value := by
  simp [Result.word, BitVec.extractLsb'_or, BitVec.extractLsb'_setWidth_of_le]

/-- Bits 28:24 lie between the status and the value. -/
theorem reserved_word (r : Result) : (Result.word r).extractLsb' 24 5 = 0 := by
  cases r <;> simp [Result.word, BitVec.extractLsb'_or, BitVec.extractLsb'_setWidth_of_le]

/-- Settles O5: the fields of the response word, read one by one; the words of the faults without a token are closed. -/
theorem responseWordFields : Obligations.ResponseWordFields :=
  ⟨fun v => ⟨status_word_ok v, value_word_ok v⟩, fun e => ⟨status_word_fault (.io e), value_word_fault (.io e)⟩,
    rfl, rfl, rfl, reserved_word⟩

/-! ### The value field -/

theorem crcValue_fields (crc : BitVec 5) :
    (crcValue crc).extractLsb' 0 5 = crc ∧ (crcValue crc).extractLsb' 5 19 = 0 := by
  simp [crcValue, BitVec.extractLsb'_setWidth_of_le]

theorem byteValue_fields (b : Byte) : (byteValue b).extractLsb' 0 8 = b ∧ (byteValue b).extractLsb' 8 16 = 0 := by
  simp [byteValue, BitVec.extractLsb'_setWidth_of_le]

/-- The bytes of a 24-bit word stand in it with the first one most significant (20_memory.md R35). -/
theorem word24_fields (h m l : Byte) :
    (word24 h m l).extractLsb' 16 8 = h ∧ (word24 h m l).extractLsb' 8 8 = m ∧ (word24 h m l).extractLsb' 0 8 = l := by
  simp [word24, BitVec.extractLsb'_or, BitVec.extractLsb'_setWidth_of_le]

theorem decodedValue_fields (rw : Bool) (addr : BitVec 6) (data : Byte) :
    (decodedValue rw addr data).getLsbD 14 = rw ∧ (decodedValue rw addr data).extractLsb' 8 6 = addr ∧
      (decodedValue rw addr data).extractLsb' 0 8 = data ∧ (decodedValue rw addr data).extractLsb' 15 9 = 0 := by
  simp [decodedValue, BitVec.extractLsb'_or, BitVec.extractLsb'_setWidth_of_le]

theorem channelValue_fields (b0 b1 : Byte) :
    (channelValue b0 b1).extractLsb' 8 8 = b0 ∧ (channelValue b0 b1).extractLsb' 0 8 = b1 ∧
      (channelValue b0 b1).extractLsb' 16 8 = 0 := by
  simp [channelValue, BitVec.extractLsb'_or, BitVec.extractLsb'_setWidth_of_le]

/-- Settles O6: the fields of each kind of value; a frame is the 24-bit word of its three bytes. -/
theorem resultValueFields : Obligations.ResultValueFields :=
  ⟨crcValue_fields, byteValue_fields, word24_fields, decodedValue_fields, channelValue_fields⟩

/-! ### The composite -/

/-- The 19 covered bits pass the mask of the composite. -/
theorem compositeOf_covered (w : BitVec 24) : (compositeOf w).extractLsb' 5 19 = w.extractLsb' 5 19 := by
  have mask : (0xFFFFE0#24).extractLsb' 5 19 = .allOnes 19 := rfl
  have initial : (0x000007#24).extractLsb' 5 19 = 0 := rfl
  rw [compositeOf, BitVec.extractLsb'_or, BitVec.extractLsb'_and, mask, initial,
    BitVec.and_allOnes]
  simp

/-- The low five bits of the composite are the initial value. -/
theorem compositeOf_initial (w : BitVec 24) : (compositeOf w).extractLsb' 0 5 = 0b00111 := by
  have mask : (0xFFFFE0#24).extractLsb' 0 5 = 0 := rfl
  have initial : (0x000007#24).extractLsb' 0 5 = 0b00111 := rfl
  rw [compositeOf, BitVec.extractLsb'_or, BitVec.extractLsb'_and, mask, initial]
  simp

/-- Settles O17: the mask and the initial value meet no bit of each other, and the word holds the three bytes. -/
theorem compositeKeepsTheCoveredBits : Obligations.CompositeKeepsTheCoveredBits := fun h m l =>
  ⟨compositeOf_covered _, compositeOf_initial _, word24_fields h m l⟩

/-! ### The control byte of the decided layout -/

/-- The control byte of the decided layout: direction in bit 7, address right-aligned (30_encoding.md R51). -/
theorem ctrl_of_decidedLayout {c : Params} (h : c.decidedLayout = true) (rw : Bool) (addr : Byte) :
    ctrl c rw addr = ((BitVec.ofBool rw).setWidth 8 <<< 7) ||| addr := by
  simp only [Params.decidedLayout, Bool.and_eq_true, beq_iff_eq] at h
  obtain ⟨⟨hrw, haddr⟩, hlevel⟩ := h
  simp [ctrl, directionFlag, hrw, haddr, hlevel]

/-- An address of at most 63 leaves bits 7:6 clear. -/
theorem getLsbD_of_le_63 {addr : Byte} (h : addr ≤ 63) {k : Nat} (hk : 6 ≤ k) : addr.getLsbD k = false :=
  Nat.testBit_lt_two_pow <| calc
    addr.toNat < 2 ^ 6 := Nat.lt_succ_of_le h
    _ ≤ 2 ^ k := Nat.pow_le_pow_right (by omega) hk

/-- Settles O18: the control byte is the direction flag in bit 7 beside an address that leaves bits 7:6 clear. -/
theorem controlByteOfTheDecidedLayout : Obligations.ControlByteOfTheDecidedLayout := by
  intro c addr hlayout haddr
  simp only [ctrl_of_decidedLayout hlayout]
  refine ⟨by simp, rfl, fun rw => ⟨?_, ?_, ?_⟩⟩
  · rw [BitVec.getLsbD_or, getLsbD_of_le_63 haddr (by decide)]
    simp
  · rw [BitVec.getLsbD_or, getLsbD_of_le_63 haddr (by decide)]
    simp
  · simp [BitVec.extractLsb'_or, BitVec.setWidth_eq_extractLsb']

end Sys2Proof.Machine
end

section
/-! PROOFS. The bit-serial machine against the function of 40_crc5.md R70, and the two operations that run it (R70, R71,
R75). -/

namespace Sys2Proof.Machine

open Sys2Proof

/-! ### The bit-serial machine -/

/-- Stepping the machine `n` times is running it for `n` steps. -/
theorem crcStep_iterate (n : Nat) (u : CrcRegs) : crcStep^[n] u = crcRun n u := by
  induction n generalizing u with
  | zero => rfl
  | succ n ih => exact ih (crcStep u)

/-- The counter starts at 0, and as a 5-bit register it counts without wrapping up to 31. -/
theorem crcRun_load_k_toNat (h m l : Byte) {n : Nat} (hn : n < 32) : (crcRun n (crcLoad h m l)).k.toNat = n := by
  simp [crcRun_k, crcLoad, Nat.mod_eq_of_lt hn]

/-- While the counter has not wrapped, the machine is done just after 19 steps. -/
theorem crcRun_load_done_iff (h m l : Byte) {n : Nat} (hn : n < 32) :
    (crcRun n (crcLoad h m l)).done = true ↔ n = 19 := by
  rw [CrcRegs.done, beq_iff_eq, ← BitVec.toNat_inj, crcRun_load_k_toNat h m l hn]
  rfl

/-- After step `n` the running register is that of the loop of R70 after its step `n`. -/
theorem crcRun_load_r (h m l : Byte) {n : Nat} (hn : n < 31) :
    (crcRun (n + 1) (crcLoad h m l)).r = crcLoop (composite h m l) n := by
  induction n with
  | zero => rfl
  | succ n ih =>
    have count := crcRun_load_k_toNat h m l (n := n + 1) (by omega)
    have past_load : (crcRun (n + 1) (crcLoad h m l)).k ≠ 0 := fun h0 => by simp [h0] at count
    have word : (crcRun (n + 1) (crcLoad h m l)).c = composite h m l := crcRun_c _ _
    rw [crcRun_succ, crcStep]
    simp only [if_neg past_load, ih (by omega), word, count, crcLoop]

/-- A whole evaluation leaves the value of the function in the running register. -/
theorem crcEvaluate_r (h m l : Byte) : (crcEvaluate h m l).r.setWidth 5 = crc5 h m l := by
  rw [crcEvaluate, crcRun_load_r h m l (by omega), crc5]

/-- Settles O13: the counter says when the machine is done, and its register follows the loop step by step. -/
theorem bitSerialMachineComputesCrc5 : Obligations.BitSerialMachineComputesCrc5 := by
  intro h m l
  simp only [crcStep_iterate]
  refine ⟨fun n hn => ?_, (crcRun_load_done_iff h m l (by omega)).2 rfl, rfl, crcEvaluate_r h m l⟩
  rw [Bool.eq_false_iff, ne_eq, crcRun_load_done_iff h m l (by omega)]
  omega

/-! ### The operations CRC5 and CRCCHK -/

/-- An evaluation that ends an operation of a ready block writes nothing but the CRC registers and the result. -/
theorem runCrc_finish_of_ready {s : State} (hs : s.Ready) (h m l : Byte) (v : Value) :
    ((s.start.runCrc h m l).finish v).visible = (s.withResult (.ok v)).visible ∧
      ((s.start.runCrc h m l).finish v).buf = s.buf := by
  obtain ⟨hbusy, -⟩ := hs
  simp [visible_eq_iff, hbusy]

/-- Settles O11: the operation delivers what the machine holds, which is the value of the function. -/
theorem crc5DeliversTheCrc : Obligations.Crc5DeliversTheCrc := by
  intro h m l s hs
  refine ⟨_, (exec_crc5_iff h m l s _).2 ⟨hs, rfl⟩, ?_⟩
  rw [runCrc_crcOut, crcEvaluate_r]
  exact runCrc_finish_of_ready hs h m l _

/-- A frame is accepted exactly when the recomputed CRC is the received one (40_crc5.md R75). -/
theorem crcOk_iff (h m l : Byte) : crcOk h m l = true ↔ crc5 h m l = l.setWidth 5 := by
  rw [crcOk, syndrome, crcDifference, beq_iff_eq]
  exact BitVec.xor_eq_zero_iff

/-- Settles O12: the operation delivers the difference of what the machine holds and the received CRC. -/
theorem crcchkDeliversTheSyndrome : Obligations.CrcchkDeliversTheSyndrome := by
  intro h m l s hs
  refine ⟨⟨_, (exec_crcchk_iff h m l s _).2 ⟨hs, rfl⟩, ?_⟩, crcOk_iff h m l⟩
  rw [runCrc_crcOut, crcEvaluate_r]
  exact runCrc_finish_of_ready hs h m l _

end Sys2Proof.Machine
end

section
/-! PROOFS. The CRC as an affine function of the covered bits (40_crc5.md R73), and what it detects (R76). -/

namespace Sys2Proof.Machine

open Sys2Proof

/-! ### The composite and the loop under exclusive-OR -/

/-- The composite is the covered bits with the initial value appended (30_encoding.md R54). -/
theorem compositeOf_eq_append (w : BitVec 24) : compositeOf w = w.extractLsb' 5 19 ++ 7#5 := calc
  compositeOf w = (compositeOf w).extractLsb' 5 19 ++ (compositeOf w).extractLsb' 0 5 := by
    rw [BitVec.extractLsb'_append_extractLsb'_eq_extractLsb' (by rfl), BitVec.extractLsb'_eq_self]
  _ = w.extractLsb' 5 19 ++ 7#5 := by
    rw [compositeOf_covered, compositeOf_initial]
    rfl

/-- The initial value, present in both composites, cancels and is put back. -/
theorem compositeOf_xor (x y : BitVec 24) : compositeOf (x ^^^ y) = compositeOf x ^^^ compositeOf y ^^^ 7#24 := by
  have initial : 7#24 = 0#19 ++ 7#5 := rfl
  rw [compositeOf_eq_append, compositeOf_eq_append, compositeOf_eq_append, initial, BitVec.xor_append,
    BitVec.xor_append, BitVec.extractLsb'_xor]
  simp

/-- The loop is linear over GF(2) in the composite. -/
theorem crcLoop_xor (a b : BitVec 24) (k : Nat) : crcLoop (a ^^^ b) k = crcLoop a k ^^^ crcLoop b k := by
  induction k with
  | zero => simp only [crcLoop, BitVec.extractLsb'_xor, reduce_xor]
  | succ k ih => simp only [crcLoop, ih, BitVec.getLsbD_xor, shiftIn_xor]

/-! ### The function on 24-bit words -/

/-- The CRC of a word is the loop run on its composite. -/
theorem crcOfWord_eq (w : BitVec 24) : crcOfWord w = (crcLoop (compositeOf w) 18).setWidth 5 := by
  rw [crcOfWord, crc5, composite, word24_of_bytes]

/-- The CRC of three bytes is that of their word. -/
theorem crcOfWord_word24 (h m l : Byte) : crcOfWord (word24 h m l) = crc5 h m l := crcOfWord_eq _

/-- The CRC depends on the covered bits alone (40_crc5.md R73 (a)). -/
theorem crcOfWord_congr {x y : BitVec 24} (h : x.extractLsb' 5 19 = y.extractLsb' 5 19) :
    crcOfWord x = crcOfWord y := by
  rw [crcOfWord_eq, crcOfWord_eq, compositeOf_eq_append, compositeOf_eq_append, h]

/-- The CRC is affine over GF(2) (40_crc5.md R73 (b)). -/
theorem crcOfWord_xor (x y : BitVec 24) : crcOfWord (x ^^^ y) = crcOfWord x ^^^ crcOfWord y ^^^ 0x07 := by
  have initial : (crcLoop 7#24 18).setWidth 5 = (0x07 : BitVec 5) := by decide +kernel
  simp only [crcOfWord_eq, compositeOf_xor, crcLoop_xor, BitVec.setWidth_xor, initial]

/-! ### Flipped bits -/

/-- What flipping bit `k` of a word adds to its CRC, whatever the word (`crcOfWord_flip`). -/
def crcColumn (k : Nat) : BitVec 5 := crcOfWord (bitMask k) ^^^ 0x07

/-- The change a flipped bit makes does not depend on the word. -/
theorem crcOfWord_flip (w : BitVec 24) (k : Nat) : crcOfWord (w ^^^ bitMask k) = crcOfWord w ^^^ crcColumn k := by
  rw [crcOfWord_xor, crcColumn, BitVec.xor_assoc]

/-- No covered bit goes unseen: P has a nonzero constant term (40_crc5.md R73 (d)). -/
theorem crcColumn_ne_zero : ∀ k ≤ 23, 5 ≤ k → crcColumn k ≠ 0 := by decide +kernel

/-- Covered bits 15 apart are seen alike: x^15 + 1 is a multiple of P (40_crc5.md R73 (e)). -/
theorem crcColumn_add_15 : ∀ k ≤ 8, 5 ≤ k → crcColumn (k + 15) = crcColumn k := by decide +kernel

/-- A flipped covered bit changes the CRC. -/
theorem crcOfWord_flip_covered (w : BitVec 24) {k : Nat} (h5 : 5 ≤ k) (h23 : k ≤ 23) :
    crcOfWord (w ^^^ bitMask k) ≠ crcOfWord w := by
  simpa [crcOfWord_flip] using crcColumn_ne_zero k h23 h5

/-- Clearing the low five bits of the last byte leaves the covered bits of the word. -/
theorem word24_and_covered (h m l : Byte) :
    (word24 h m (l &&& 0xE0)).extractLsb' 5 19 = (word24 h m l).extractLsb' 5 19 := by
  have last : ∀ b : Byte, ((b &&& 0xE0).setWidth 24).extractLsb' 5 19 = (b.setWidth 24).extractLsb' 5 19 := by
    decide +kernel
  rw [word24, BitVec.extractLsb'_or, last, ← BitVec.extractLsb'_or, word24]

/-- Settles O15, from the linearity of the loop: each flipped bit adds a constant of its own to the CRC. -/
theorem crc5IsAffineOnTheCoveredBits : Obligations.Crc5IsAffineOnTheCoveredBits := by
  refine ⟨fun h m l => ?_, crcOfWord_xor, by decide +kernel, fun w _ => crcOfWord_flip_covered w,
    fun w k h5 h23 => ?_⟩
  · rw [← crcOfWord_word24, ← crcOfWord_word24]
    exact crcOfWord_congr (word24_and_covered h m l).symm
  · rw [crcOfWord_flip, crcOfWord_flip, crcColumn_add_15 k (by omega) h5, BitVec.xor_assoc, BitVec.xor_self,
      BitVec.xor_zero]

/-! ### Single-bit detection -/

/-- A word is accepted exactly when its CRC stands in its low five bits. -/
theorem crcOkWord_iff (w : BitVec 24) : crcOkWord w = true ↔ crcOfWord w = w.extractLsb' 0 5 := by
  simp [crcOkWord, crcOk_iff, crcOfWord, BitVec.setWidth_eq_extractLsb']

theorem getLsbD_bitMask {p : Nat} (hp : p < 24) (i : Nat) : (bitMask p).getLsbD i = decide (p = i) := by
  have power : bitMask p = BitVec.twoPow 24 p := rfl
  simp [power, BitVec.getLsbD_twoPow, hp]

/-- A bit mask has no bit in a field exactly when its place is outside the field. -/
theorem extractLsb'_bitMask_eq_zero_iff {p : Nat} (hp : p < 24) (start len : Nat) :
    (bitMask p).extractLsb' start len = 0#len ↔ p < start ∨ start + len ≤ p := by
  constructor
  · intro h
    by_contra inside
    have hbit := congrArg (BitVec.getLsbD · (p - start)) h
    simp [getLsbD_bitMask hp] at hbit
    omega
  · intro outside
    apply BitVec.eq_of_getLsbD_eq
    intro i hi
    have elsewhere : p ≠ start + i := by omega
    simp [getLsbD_bitMask hp, elsewhere]

/-- A flipped bit leaves exactly the fields it is outside of. -/
theorem extractLsb'_flip_eq_iff (w : BitVec 24) {p : Nat} (hp : p < 24) (start len : Nat) :
    (w ^^^ bitMask p).extractLsb' start len = w.extractLsb' start len ↔ p < start ∨ start + len ≤ p := by
  rw [← extractLsb'_bitMask_eq_zero_iff hp, BitVec.extractLsb'_xor]
  simp

/-- Settles O16: a covered bit changes the CRC and not the received one, a CRC bit the received one and not the CRC. -/
theorem everySingleBitFlipIsRejected : Obligations.EverySingleBitFlipIsRejected := by
  intro w p hp hw
  rw [crcOkWord_iff] at hw
  rw [Bool.eq_false_iff, ne_eq, crcOkWord_iff]
  intro hflip
  rcases Nat.lt_or_ge p 5 with crcBit | covered
  · have sameCrc := crcOfWord_congr ((extractLsb'_flip_eq_iff w hp 5 19).2 (.inl crcBit))
    have sameField := (extractLsb'_flip_eq_iff w hp 0 5).1 (hflip.symm.trans (sameCrc.trans hw))
    omega
  · have sameField := (extractLsb'_flip_eq_iff w hp 0 5).2 (.inr covered)
    exact crcOfWord_flip_covered w covered (by omega) (hflip.trans (sameField.trans hw.symm))

end Sys2Proof.Machine
end

section
/-! PROOFS. The CRC as a polynomial remainder over GF(2) (40_crc5.md R72): the running register and the bits of the
composite read so far agree modulo the generator. -/

namespace Sys2Proof.Machine

open Sys2Proof Polynomial

/-! ### Words as polynomials -/

/-- Exclusive-OR is addition over GF(2). -/
theorem bitPolynomial_xor {n : Nat} (x y : BitVec n) : bitPolynomial (x ^^^ y) = bitPolynomial x + bitPolynomial y := by
  simp only [bitPolynomial, ← Finset.sum_add_distrib, BitVec.getLsbD_xor]
  refine Finset.sum_congr rfl fun i _ => ?_
  cases x.getLsbD i <;> cases y.getLsbD i <;> simp [CharTwo.add_self_eq_zero]

/-- Appending `m` bits multiplies by x^m and adds them. -/
theorem bitPolynomial_append {n m : Nat} (x : BitVec n) (y : BitVec m) :
    bitPolynomial (x ++ y) = bitPolynomial x * X ^ m + bitPolynomial y := by
  simp only [bitPolynomial, Nat.add_comm n m, Finset.sum_range_add, Finset.sum_mul]
  rw [add_comm]
  refine congrArg₂ _ (Finset.sum_congr rfl fun i _ => ?_) (Finset.sum_congr rfl fun i hi => ?_)
  · simp [BitVec.getLsbD_append, pow_add, mul_comm]
  · simp [BitVec.getLsbD_append, Finset.mem_range.1 hi]

/-- A word of `n` bits has degree below `n`. -/
theorem degree_bitPolynomial_lt {n : Nat} (v : BitVec n) : (bitPolynomial v).degree < n := by
  refine mem_degreeLT.1 (Submodule.sum_mem _ fun i hi => mem_degreeLT.2 ?_)
  split
  · simpa using Finset.mem_range.1 hi
  · simp

/-! ### The generator -/

theorem bitPolynomial_0x35 : bitPolynomial 0x35#6 = generatorPolynomial := by
  simp [bitPolynomial, generatorPolynomial, Finset.sum_range_succ]
  ring

theorem degree_generatorPolynomial : generatorPolynomial.degree = 5 := by
  unfold generatorPolynomial
  compute_degree!

theorem generatorPolynomial_monic : generatorPolynomial.Monic := by
  unfold generatorPolynomial
  monicity!

/-- A word of five bits is its own remainder. -/
theorem bitPolynomial_modByMonic_self (v : BitVec 5) : bitPolynomial v %ₘ generatorPolynomial = bitPolynomial v := by
  rw [modByMonic_eq_self_iff generatorPolynomial_monic, degree_generatorPolynomial]
  exact degree_bitPolynomial_lt v

/-! ### The loop modulo the generator -/

/-- A word of bits modulo the generator. -/
noncomputable def residue {n : Nat} (v : BitVec n) : AdjoinRoot generatorPolynomial :=
  AdjoinRoot.mk generatorPolynomial (bitPolynomial v)

theorem residue_append {n m : Nat} (x : BitVec n) (y : BitVec m) :
    residue (x ++ y) = residue x * AdjoinRoot.root generatorPolynomial ^ m + residue y := by
  simp [residue, bitPolynomial_append]

theorem residue_zero (n : Nat) : residue (0#n) = 0 := by
  simp [residue, bitPolynomial]

/-- A reduction subtracts the generator or nothing. -/
theorem residue_reduce (x : BitVec 6) : residue (reduce x) = residue x := by
  unfold reduce
  split
  · simp [residue, bitPolynomial_xor, bitPolynomial_0x35]
  · rfl

/-- A register with its top bit clear is its low five bits. -/
theorem residue_setWidth {r : BitVec 6} (h : r.getLsbD 5 = false) : residue (r.setWidth 5) = residue r := by
  have split_top : 0#1 ++ r.setWidth 5 = r := by
    revert r
    decide +kernel
  rw [← congrArg residue split_top, residue_append, residue_zero, zero_mul, zero_add]

/-- A loop step multiplies by x and adds the bit appended, as the register it starts from is reduced (R70). -/
theorem residue_shiftIn {r : BitVec 6} (h : r.getLsbD 5 = false) (b : Bool) :
    residue (shiftIn r b) = residue r * AdjoinRoot.root generatorPolynomial + residue (BitVec.ofBool b) := by
  have appended : r <<< 1 ||| (BitVec.ofBool b).setWidth 6 = r.setWidth 5 ++ BitVec.ofBool b := by
    revert r b
    decide +kernel
  rw [shiftIn, residue_reduce, appended, residue_append, residue_setWidth h, pow_one]

/-- Every register of the loop is reduced. -/
theorem crcLoop_top (c : BitVec 24) (k : Nat) : (crcLoop c k).getLsbD 5 = false := by
  cases k <;> exact reduce_top _

/-- A field one bit longer at its low end is the field with that bit appended. -/
theorem extractLsb'_succ {n : Nat} (v : BitVec n) (start len : Nat) :
    v.extractLsb' start (len + 1) = v.extractLsb' (start + 1) len ++ BitVec.ofBool (v.getLsbD start) := by
  have bit : BitVec.ofBool (v.getLsbD start) = v.extractLsb' start 1 := by
    apply BitVec.eq_of_getLsbD_eq
    intro i hi
    obtain rfl : i = 0 := by omega
    simp
  rw [bit, BitVec.extractLsb'_append_extractLsb'_eq_extractLsb' rfl]

/-- After step `k` the register agrees, modulo the generator, with the `6 + k` bits of the composite read so far. -/
theorem residue_crcLoop (c : BitVec 24) {k : Nat} (hk : k ≤ 18) :
    residue (crcLoop c k) = residue (c.extractLsb' (18 - k) (6 + k)) := by
  induction k with
  | zero => exact residue_reduce _
  | succ k ih =>
    have place : 18 - k = 18 - (k + 1) + 1 := by omega
    rw [crcLoop, residue_shiftIn (crcLoop_top c k), ih (by omega), place, ← Nat.add_assoc, extractLsb'_succ,
      residue_append, pow_one]

/-- Equal residues leave equal remainders. -/
theorem modByMonic_eq_of_residue_eq {n m : Nat} {x : BitVec n} {y : BitVec m} (h : residue x = residue y) :
    bitPolynomial x %ₘ generatorPolynomial = bitPolynomial y %ₘ generatorPolynomial :=
  modByMonic_eq_of_dvd_sub generatorPolynomial_monic (AdjoinRoot.mk_eq_mk.1 h)

/-- The CRC is the remainder of the composite. -/
theorem bitPolynomial_crc5 (h m l : Byte) :
    bitPolynomial (crc5 h m l) = bitPolynomial (composite h m l) %ₘ generatorPolynomial := by
  have same : residue (crc5 h m l) = residue (composite h m l) := by
    rw [crc5, residue_setWidth (crcLoop_top _ _), residue_crcLoop _ le_rfl]
    simp
  rw [← bitPolynomial_modByMonic_self, modByMonic_eq_of_residue_eq same]

/-- Settles O14: the second form splits the composite into the covered bits and the initial value, which is its own
remainder. -/
theorem crc5IsThePolynomialRemainder : Obligations.Crc5IsThePolynomialRemainder := by
  refine fun h m l => ⟨bitPolynomial_crc5 h m l, ?_⟩
  rw [bitPolynomial_crc5, composite, compositeOf_eq_append, bitPolynomial_append, add_modByMonic,
    bitPolynomial_modByMonic_self]

end Sys2Proof.Machine
end

section
/-! PROOFS. The frame codec (41_frame.md R80, R81, R85): FENC and FDEC are answered without a call; the control byte
gives its two fields back, and an encoded frame passes the check that every flip of one bit fails. -/

namespace Sys2Proof.Machine

open Sys2Proof

/-! ### The end of an operation -/

/-- An operation that ends having changed, beside the registers left open between operations (10_state.md R12, R13),
only what `s` says, leaves `s` with its result. -/
theorem deliver_visible {s u : State} (hbusy : s.busy = false) (hu : u.visible = s.start.visible) (r : Result) :
    (u.goIdle.deliver r).visible = (s.withResult r).visible := calc
  (u.goIdle.deliver r).visible = (u.visible.goIdle.deliver r).visible := rfl
  _ = (s.start.visible.goIdle.deliver r).visible := by rw [hu]
  _ = (s.withResult r).visible := by simp [visible_eq_iff, hbusy]

/-- A ready block that has answered `r` at once, without a call: the CRC registers hold `u`, all else is as it was. -/
def State.answered (s : State) (u : CrcRegs) (r : Result) : State := (s.start.setCrc u).goIdle.deliver r

theorem answered_visible {s : State} (hs : s.Ready) (u : CrcRegs) (r : Result) :
    (s.answered u r).visible = (s.withResult r).visible := deliver_visible hs.1 rfl r

theorem answered_ready {s : State} (hs : s.Ready) (u : CrcRegs) (r : Result) : (s.answered u r).Ready := ⟨rfl, hs.2⟩

/-- An evaluation of the CRC unit gives the CRC of R70. -/
theorem runCrc_crcOut_eq_crc5 (s : State) (h m l : Byte) : (s.runCrc h m l).crcOut = crc5 h m l :=
  (runCrc_crcOut s h m l).trans (crcEvaluate_r h m l)

/-! ### FENC and FDEC -/

/-- The frame FENC delivers for a valid address (41_frame.md R80). -/
def State.encodedFrame (s : State) (rw : Bool) (addr value : Byte) : Value :=
  frameValue (ctrl s.cfg rw addr) value (if s.crcEn then crcByte (crc5 (ctrl s.cfg rw addr) value 0) else 0)

/-- The result of FENC (41_frame.md R80). -/
def State.fencResult (s : State) (rw : Bool) (addr value : Byte) : Result :=
  if addrValid s.cfg addr then .ok (s.encodedFrame rw addr value) else .fault .config

/-- The result of FDEC (41_frame.md R81). -/
def State.fdecResult (s : State) (b0 b1 b2 : Byte) : Result :=
  if s.crcEn = true ∧ syndrome b0 b1 b2 ≠ 0 then .fault .integrity
  else .ok (decodedValue (ctrlDirection s.cfg b0) (ctrlAddress s.cfg b0) b1)

/-- FENC answers its result; it runs the CRC unit for a valid address with integrity checking, and else leaves it. -/
theorem exec_fenc_of_ready {s : State} (hs : s.Ready) (rw : Bool) (addr value : Byte) :
    ∃ u, exec (.fenc rw addr value) s = .next (s.answered u (s.fencResult rw addr value)) := by
  simp only [exec_fenc_iff, State.fencResult, State.encodedFrame, runCrc_crcOut_eq_crc5]
  split
  · split
    · exact ⟨crcEvaluate (ctrl s.cfg rw addr) value 0, hs, rfl⟩
    · exact ⟨⟨s.crcC, s.crcR, s.crcK⟩, hs, rfl⟩
  · exact ⟨⟨s.crcC, s.crcR, s.crcK⟩, hs, rfl⟩

/-- FDEC answers its result; it runs the CRC unit exactly with integrity checking. -/
theorem exec_fdec_of_ready {s : State} (hs : s.Ready) (b0 b1 b2 : Byte) :
    ∃ u, exec (.fdec b0 b1 b2) s = .next (s.answered u (s.fdecResult b0 b1 b2)) := by
  have check : crcDifference (crc5 b0 b1 b2) b2 = syndrome b0 b1 b2 := rfl
  simp only [exec_fdec_iff, State.fdecResult, runCrc_crcOut_eq_crc5, check]
  by_cases hcrc : s.crcEn = true
  · refine ⟨crcEvaluate b0 b1 b2, hs, ?_⟩
    by_cases hsyn : syndrome b0 b1 b2 = 0
    · rw [if_pos hcrc, if_pos hsyn, if_neg fun h => h.2 hsyn]
      rfl
    · rw [if_pos hcrc, if_neg hsyn, if_pos ⟨hcrc, hsyn⟩]
      rfl
  · refine ⟨⟨s.crcC, s.crcR, s.crcK⟩, hs, ?_⟩
    rw [if_neg hcrc, if_neg fun h => hcrc h.1]
    rfl

/-- Settles O19: the answer is FENC's result, and it is delivered at once. -/
theorem fencDeliversTheFrame : Obligations.FencDeliversTheFrame := by
  intro rw addr value s hs
  obtain ⟨u, hexec⟩ := exec_fenc_of_ready hs rw addr value
  exact ⟨_, hexec, rfl, answered_visible hs u _⟩

/-- The fields of a control byte in the decided layout (30_encoding.md R51). -/
theorem ctrl_fields_of_decidedLayout {c : Params} (h : c.decidedLayout = true) (b0 : Byte) :
    ctrlDirection c b0 = b0.getLsbD 7 ∧ ctrlAddress c b0 = b0.extractLsb' 0 6 := by
  simp only [Params.decidedLayout, Bool.and_eq_true, beq_iff_eq] at h
  obtain ⟨⟨hrw, haddr⟩, hlevel⟩ := h
  simp [ctrlDirection, ctrlAddress, hrw, haddr, hlevel]

/-- Settles O20: the answer is FDEC's result, and it is delivered at once. -/
theorem fdecDeliversTheFields : Obligations.FdecDeliversTheFields := by
  intro b0 b1 b2 s hs
  obtain ⟨u, hexec⟩ := exec_fdec_of_ready hs b0 b1 b2
  exact ⟨_, hexec, rfl, answered_visible hs u _, fun hlayout => ctrl_fields_of_decidedLayout hlayout b0⟩

/-! ### Decoding an encoded frame -/

/-- The direction is read back from a control byte whose address field does not reach the direction flag. -/
theorem ctrlDirection_ctrl {c : Params} {addr : Byte} (hapart : c.fieldsApart = true) (haddr : addr ≤ 63)
    (rw : Bool) : ctrlDirection c (ctrl c rw addr) = rw := by
  have clear : (addr <<< c.ctrlAddrLsb.val).getLsbD c.ctrlRwBit.val = false := by
    simp only [Params.fieldsApart, Bool.or_eq_true, decide_eq_true_eq] at hapart
    rw [BitVec.getLsbD_shiftLeft]
    rcases hapart with below | above
    · simp [below]
    · simp [getLsbD_of_le_63 haddr (k := c.ctrlRwBit.val - c.ctrlAddrLsb.val) (by omega)]
  have flag : (ctrl c rw addr).getLsbD c.ctrlRwBit.val = directionFlag c rw := by
    rw [ctrl, BitVec.getLsbD_or, clear]
    simp
  rw [ctrlDirection, flag, directionFlag]
  cases rw <;> cases c.rwWriteLevel <;> rfl

/-- The address is read back from a control byte whose direction flag lies outside the address field. -/
theorem ctrlAddress_ctrl {c : Params} (hapart : c.fieldsApart = true) (rw : Bool) (addr : Byte) :
    ctrlAddress c (ctrl c rw addr) = addr.setWidth 6 := by
  simp only [Params.fieldsApart, Bool.or_eq_true, decide_eq_true_eq] at hapart
  have inByte : c.ctrlAddrLsb.val + 6 ≤ 8 := by omega
  have clear : ((BitVec.ofBool (directionFlag c rw)).setWidth 8 <<< c.ctrlRwBit.val).extractLsb' c.ctrlAddrLsb.val 6 =
      0#6 := by
    rcases hapart with below | above
    · rw [extractLsb'_shiftLeft_of_le _ below.le inByte]
      apply BitVec.eq_of_getLsbD_eq
      intro i hi
      have past : c.ctrlAddrLsb.val - c.ctrlRwBit.val ≠ 0 := by omega
      simp [past]
    · exact extractLsb'_shiftLeft_of_add_le _ above
  rw [ctrlAddress, ctrl, BitVec.extractLsb'_or, clear, extractLsb'_shiftLeft_of_le _ le_rfl inByte]
  simp [BitVec.setWidth_eq_extractLsb']

/-- The CRC byte of a frame stands below the bits the CRC covers, so the frame's CRC is its own (40_crc5.md R73 (a)). -/
theorem crcOk_crcByte (b0 b1 : Byte) : crcOk b0 b1 (crcByte (crc5 b0 b1 0)) = true := by
  obtain ⟨crc5_covered, -⟩ := crc5IsAffineOnTheCoveredBits
  have uncovered : ∀ crc : BitVec 5, crcByte crc &&& 0xE0 = 0 := by decide
  rw [crcOk_iff, crc5_covered, uncovered, crcByte]
  simp

/-- With integrity checking, the frame FENC delivers is an accepted one. -/
theorem crcOkWord_encodedFrame {s : State} (hcrc : s.crcEn = true) (rw : Bool) (addr value : Byte) :
    crcOkWord (s.encodedFrame rw addr value) = true := by
  obtain ⟨h0, h1, h2⟩ := word24_fields (ctrl s.cfg rw addr) value (crcByte (crc5 (ctrl s.cfg rw addr) value 0))
  have frame : s.encodedFrame rw addr value =
      word24 (ctrl s.cfg rw addr) value (crcByte (crc5 (ctrl s.cfg rw addr) value 0)) := by
    rw [State.encodedFrame, if_pos hcrc]
    rfl
  rw [frame, crcOkWord, h0, h1, h2, crcOk_crcByte]

/-- FDEC's result on a 24-bit word of three bytes, by the check of the word. -/
theorem fdecResult_of_word (s : State) (w : BitVec 24) :
    s.fdecResult (w.extractLsb' 16 8) (w.extractLsb' 8 8) (w.extractLsb' 0 8) =
      if s.crcEn = true ∧ crcOkWord w = false then .fault .integrity
      else .ok (decodedValue (ctrlDirection s.cfg (w.extractLsb' 16 8)) (ctrlAddress s.cfg (w.extractLsb' 16 8))
        (w.extractLsb' 8 8)) := by
  simp [State.fdecResult, crcOkWord, crcOk]

/-- FDEC of the frame FENC delivers gives the operands back. -/
theorem fdecResult_encodedFrame {s : State} (hapart : s.cfg.fieldsApart = true) {addr : Byte} (haddr : addr ≤ 63)
    (rw : Bool) (value : Byte) :
    s.fdecResult ((s.encodedFrame rw addr value).extractLsb' 16 8) ((s.encodedFrame rw addr value).extractLsb' 8 8)
      ((s.encodedFrame rw addr value).extractLsb' 0 8) = .ok (decodedValue rw (addr.setWidth 6) value) := by
  have accepted : ¬(s.crcEn = true ∧ crcOkWord (s.encodedFrame rw addr value) = false) := by
    rintro ⟨hcrc, hrejected⟩
    simp [crcOkWord_encodedFrame hcrc] at hrejected
  obtain ⟨h0, h1, -⟩ := word24_fields (ctrl s.cfg rw addr) value
    (if s.crcEn then crcByte (crc5 (ctrl s.cfg rw addr) value 0) else 0)
  have hctrl : (s.encodedFrame rw addr value).extractLsb' 16 8 = ctrl s.cfg rw addr := h0
  have hvalue : (s.encodedFrame rw addr value).extractLsb' 8 8 = value := h1
  rw [fdecResult_of_word, if_neg accepted, hctrl, hvalue, ctrlDirection_ctrl hapart haddr, ctrlAddress_ctrl hapart]

/-- With integrity checking, FDEC of that frame with one bit flipped ends in IntegrityFault (40_crc5.md R76). -/
theorem fdecResult_flip_encodedFrame {s : State} (hcrc : s.crcEn = true) (rw : Bool) (addr value : Byte) {p : Nat}
    (hp : p < 24) :
    s.fdecResult ((s.encodedFrame rw addr value ^^^ bitMask p).extractLsb' 16 8)
      ((s.encodedFrame rw addr value ^^^ bitMask p).extractLsb' 8 8)
      ((s.encodedFrame rw addr value ^^^ bitMask p).extractLsb' 0 8) = .fault .integrity := by
  have rejected := everySingleBitFlipIsRejected _ p hp (crcOkWord_encodedFrame hcrc rw addr value)
  rw [fdecResult_of_word, if_pos ⟨hcrc, rejected⟩]

/-- FDEC on a ready block delivers its result. -/
theorem exec_fdec_results {s : State} (hs : s.Ready) (b0 b1 b2 : Byte) :
    ∃ t, exec (.fdec b0 b1 b2) s = .next t ∧ t.results = s.results ++ [s.fdecResult b0 b1 b2] := by
  obtain ⟨u, hexec⟩ := exec_fdec_of_ready hs b0 b1 b2
  exact ⟨_, hexec, rfl⟩

/-- Settles O21: FENC leaves a ready block of the same configuration, on which FDEC's result on the frame, on the frame
with a flipped bit, and without integrity checking on any bytes, is as said. -/
theorem decodeOfEncodedFrameRoundTrips : Obligations.DecodeOfEncodedFrameRoundTrips := by
  intro rw addr value s hs hapart haddr
  obtain ⟨u, hexec⟩ := exec_fenc_of_ready hs rw addr value
  have hresult : s.fencResult rw addr value = .ok (s.encodedFrame rw addr value) := if_pos haddr
  rw [hresult] at hexec
  have ready := answered_ready hs u (.ok (s.encodedFrame rw addr value))
  refine ⟨_, s.encodedFrame rw addr value, hexec, ready, rfl, ?_, fun hcrc p hp => ?_, fun hcrc b0 b1 b2 => ?_⟩
  · rw [← fdecResult_encodedFrame hapart (addrValid_le haddr) rw value]
    exact exec_fdec_results ready _ _ _
  · rw [← fdecResult_flip_encodedFrame hcrc rw addr value hp]
    exact exec_fdec_results ready _ _ _
  · have unchecked : s.fdecResult b0 b1 b2 =
        .ok (decodedValue (ctrlDirection s.cfg b0) (ctrlAddress s.cfg b0) b1) := by
      simp [State.fdecResult, hcrc]
    rw [← unchecked]
    exact exec_fdec_results ready _ _ _

end Sys2Proof.Machine
end

section
/-! PROOFS. The framed register transport (41_frame.md R82 to R84): each end of the register write and of the register
read, from any state that runs them, and from these each end of FRD, FWR and FUPD. -/

namespace Sys2Proof.Machine

open Sys2Proof

/-! ### The end of an operation that has made calls -/

section
variable {s u : State} {cs : List Call} {rest : List BusAnswer}

theorem finish_visible_of_calls (hs : s.Ready)
    (hu : u.visible = (({ s with busAnswers := rest }).withCalls cs).start.visible) (v : Value) :
    (u.finish v).visible = ((({ s with busAnswers := rest }).withCalls cs).withResult (.ok v)).visible := by
  have ended := deliver_visible (s := State.withCalls { s with busAnswers := rest } cs) hs.1 hu (.ok v)
  exact ended

theorem raise_visible_of_calls (hs : s.Ready)
    (hu : u.visible = (({ s with busAnswers := rest }).withCalls cs).start.visible) (f : OpFault) :
    (u.raise f).visible = ((({ s with busAnswers := rest }).withCalls cs).withResult (.fault f)).visible := by
  have ended := deliver_visible (s := State.withCalls { s with busAnswers := rest } cs) hs.1 hu (.fault f)
  exact ended

end

/-- The CRC unit run on three bytes of a frame, with integrity checking; else left as it is. -/
def State.runFrameCrc (s : State) (h m l : Byte) : State :=
  s.setCrc (if s.crcEn then crcEvaluate h m l else ⟨s.crcC, s.crcR, s.crcK⟩)

theorem runFrameCrc_eq_ite (s : State) (h m l : Byte) :
    s.runFrameCrc h m l = if s.crcEn then s.runCrc h m l else s := by
  unfold State.runFrameCrc
  split <;> rfl

/-! ### The register write (41_frame.md R83) -/

/-- The write frame is loaded and its exchange called (41_frame.md R83 steps 2 and 3). -/
def State.writeSent (s : State) (addr value : Byte) : State :=
  ((s.runFrameCrc (ctrl s.cfg true addr) value 0).loadFrame (ctrl s.cfg true addr) value
    (crcByte (crc5 (ctrl s.cfg true addr) value 0))).issue (writeCall s addr value)

/-- A write answered, by an error or not: the call made and its answer taken. -/
theorem writeSent_visible (s : State) (addr value : Byte) (rest : List BusAnswer) :
    ((s.start.writeSent addr value).dropBus rest).visible =
      (({ s with busAnswers := rest }).withCalls [writeCall s addr value]).start.visible := by
  simp [visible_eq_iff, State.writeSent, State.runFrameCrc, writeCall]

theorem writeSent_buf (s : State) (addr value : Byte) :
    (s.writeSent addr value).buf =
      ⟨ctrl s.cfg true addr, value,
        if s.crcEn then crcByte (crc5 (ctrl s.cfg true addr) value 0) else s.buf.b2⟩ := rfl

/-- The CRC byte is loaded where the frame has one; where it has none, the third byte loaded does not matter. -/
theorem loadWriteFrame_eq (s : State) (addr value : Byte) :
    s.loadWriteFrame addr value =
      (s.runFrameCrc (ctrl s.cfg true addr) value 0).loadFrame (ctrl s.cfg true addr) value
        (crcByte (crc5 (ctrl s.cfg true addr) value 0)) := by
  rw [runFrameCrc_eq_ite]
  unfold State.loadWriteFrame
  split
  case isTrue => simp only [runCrc_crcOut_eq_crc5]
  case isFalse hcrc => simp [State.loadFrame, hcrc]

theorem issueXfer_loadWriteFrame (s : State) (addr value : Byte) :
    (s.loadWriteFrame addr value).issueXfer (s.loadWriteFrame addr value).frameLen = s.writeSent addr value := by
  rw [loadWriteFrame_eq, issueXfer_loadFrame]
  rfl

theorem writeRegister_of_valid {s : State} {addr : Byte} (haddr : addrValid s.cfg addr = true) (value : Byte)
    (use : WriteUse) : s.writeRegister addr value use = (s.writeSent addr value).writeAnswered use := by
  simp only [State.writeRegister, haddr, if_true, issueXfer_loadWriteFrame]

theorem writeRegister_of_invalid {s : State} {addr : Byte} (haddr : addrValid s.cfg addr = false) (value : Byte)
    (use : WriteUse) : s.writeRegister addr value use = s.raise .config := by
  simp [State.writeRegister, haddr]

/-- The exchange of a write fails: IoFault with its token. -/
theorem writeRegister_of_ioError {s : State} {addr : Byte} {e : ErrToken} {rest : List BusAnswer}
    (haddr : addrValid s.cfg addr = true) (hans : s.busAnswers = .ioError e :: rest) (value : Byte) (use : WriteUse) :
    s.writeRegister addr value use = ((s.writeSent addr value).dropBus rest).raise (.io e) := by
  rw [writeRegister_of_valid haddr]
  exact awaitBus_ioError (s := s.writeSent addr value) hans _ _

/-- The exchange of a write succeeds: Ok, whatever was received. -/
theorem writeRegister_of_ok {s : State} {addr : Byte} {rx : Trio} {rest : List BusAnswer}
    (haddr : addrValid s.cfg addr = true) (hans : s.busAnswers = .ok rx :: rest) (value : Byte) (use : WriteUse) :
    s.writeRegister addr value use = ((s.writeSent addr value).dropBus rest).finish 0 := by
  rw [writeRegister_of_valid haddr]
  exact awaitBus_ok (s := s.writeSent addr value) hans _ _

/-! ### The register read (41_frame.md R82) -/

/-- The read command frame is loaded and its exchange called (41_frame.md R82 steps 2 and 3). -/
def State.readSent (s : State) (addr : Byte) : State :=
  (s.loadFrame (ctrl s.cfg false addr) 0 0).issue (readCall s addr)

/-- The bytes received in a read are in the buffer, and the CRC unit has run on them, with integrity checking
(41_frame.md R82 steps 3 and 4). -/
def State.readReceived (s : State) (addr : Byte) (rx : Trio) (rest : List BusAnswer) : State :=
  (((s.readSent addr).dropBus rest).setBuf ⟨rx.b0, rx.b1, if s.crcEn then rx.b2 else s.buf.b2⟩).runFrameCrc
    (responseHigh s.cfg addr rx.b0) rx.b1 (if s.crcEn then rx.b2 else s.buf.b2)

/-- A read failed on the bus: the call made and its answer taken. -/
theorem readSent_visible (s : State) (addr : Byte) (rest : List BusAnswer) :
    ((s.start.readSent addr).dropBus rest).visible =
      (({ s with busAnswers := rest }).withCalls [readCall s addr]).start.visible := by
  simp [visible_eq_iff, State.readSent, readCall]

/-- A read answered by bytes: the call made and its answer taken. -/
theorem readReceived_visible (s : State) (addr : Byte) (rx : Trio) (rest : List BusAnswer) :
    (s.start.readReceived addr rx rest).visible =
      (({ s with busAnswers := rest }).withCalls [readCall s addr]).start.visible := by
  simp [visible_eq_iff, State.readReceived, State.readSent, State.runFrameCrc, readCall]

theorem readReceived_buf (s : State) (addr : Byte) (rx : Trio) (rest : List BusAnswer) :
    (s.readReceived addr rx rest).buf = ⟨rx.b0, rx.b1, if s.crcEn then rx.b2 else s.buf.b2⟩ := rfl

/-- A read answered by bytes, then a write answered: both calls made and both answers taken (41_frame.md R84). -/
theorem writeSent_readReceived_visible (s : State) (addr value : Byte) (rx : Trio) (rest rest' : List BusAnswer) :
    (((s.start.readReceived addr rx rest).writeSent addr value).dropBus rest').visible =
      (({ s with busAnswers := rest' }).withCalls [readCall s addr, writeCall s addr value]).start.visible := by
  simp [visible_eq_iff, State.writeSent, State.readReceived, State.readSent, State.runFrameCrc, readCall, writeCall]

/-- The check of a received frame is that of the bytes in the buffer; without integrity checking it passes. -/
theorem readChecked_eq_ite (s : State) (addr : Byte) (use : ReadUse) :
    s.readChecked addr use =
      if readAccepted s addr s.buf then
        (s.runFrameCrc (responseHigh s.cfg addr s.buf.b0) s.buf.b1 s.buf.b2).readDone addr use
      else (s.runFrameCrc (responseHigh s.cfg addr s.buf.b0) s.buf.b1 s.buf.b2).raise .integrity := by
  rw [runFrameCrc_eq_ite]
  unfold State.readChecked
  split
  case isTrue hcrc => simp [readAccepted, hcrc, crcOk, syndrome, -runCrc_crcOut, runCrc_crcOut_eq_crc5]
  case isFalse hcrc => simp [readAccepted, hcrc]

/-- The third byte counts only where the frame has one. -/
theorem readAccepted_received (s : State) (addr : Byte) (rx : Trio) (b2 : Byte) :
    readAccepted s addr ⟨rx.b0, rx.b1, if s.crcEn then rx.b2 else b2⟩ = readAccepted s addr rx := by
  cases hcrc : s.crcEn <;> simp [readAccepted, hcrc]

theorem readRegister_of_valid {s : State} {addr : Byte} (haddr : addrValid s.cfg addr = true) (use : ReadUse) :
    s.readRegister addr use = (s.readSent addr).readAnswered addr use := by
  simp only [State.readRegister, haddr, if_true, issueXfer_loadFrame]
  rfl

theorem readRegister_of_invalid {s : State} {addr : Byte} (haddr : addrValid s.cfg addr = false) (use : ReadUse) :
    s.readRegister addr use = s.raise .config := by
  simp [State.readRegister, haddr]

/-- The exchange of a read fails: IoFault with its token. -/
theorem readRegister_of_ioError {s : State} {addr : Byte} {e : ErrToken} {rest : List BusAnswer}
    (haddr : addrValid s.cfg addr = true) (hans : s.busAnswers = .ioError e :: rest) (use : ReadUse) :
    s.readRegister addr use = ((s.readSent addr).dropBus rest).raise (.io e) := by
  rw [readRegister_of_valid haddr]
  exact awaitBus_ioError (s := s.readSent addr) hans _ _

/-- The exchange of a read succeeds: the received frame decides. -/
theorem readRegister_of_ok {s : State} {addr : Byte} {rx : Trio} {rest : List BusAnswer}
    (haddr : addrValid s.cfg addr = true) (hans : s.busAnswers = .ok rx :: rest) (use : ReadUse) :
    s.readRegister addr use =
      if readAccepted s addr rx then (s.readReceived addr rx rest).readDone addr use
      else (s.readReceived addr rx rest).raise .integrity := by
  have received : receiveInto (s.readSent addr).buf rx s.frameLen =
      ⟨rx.b0, rx.b1, if s.crcEn then rx.b2 else s.buf.b2⟩ := by
    rw [State.frameLen, receiveInto_frameLen]
    cases hcrc : s.crcEn <;> simp [State.readSent, hcrc]
  have answered : (s.readSent addr).readAnswered addr use =
      (((s.readSent addr).dropBus rest).setBuf ⟨rx.b0, rx.b1, if s.crcEn then rx.b2 else s.buf.b2⟩).readChecked
        addr use := by
    rw [← received]
    exact awaitBus_ok (s := s.readSent addr) hans _ _
  rw [readRegister_of_valid haddr, answered, readChecked_eq_ite, ← readAccepted_received s addr rx s.buf.b2]
  rfl

theorem readRegister_of_accepted {s : State} {addr : Byte} {rx : Trio} {rest : List BusAnswer}
    (haddr : addrValid s.cfg addr = true) (hans : s.busAnswers = .ok rx :: rest) (hrx : readAccepted s addr rx = true)
    (use : ReadUse) : s.readRegister addr use = (s.readReceived addr rx rest).readDone addr use :=
  (readRegister_of_ok haddr hans use).trans (if_pos hrx)

theorem readRegister_of_rejected {s : State} {addr : Byte} {rx : Trio} {rest : List BusAnswer}
    (haddr : addrValid s.cfg addr = true) (hans : s.busAnswers = .ok rx :: rest) (hrx : readAccepted s addr rx = false)
    (use : ReadUse) : s.readRegister addr use = (s.readReceived addr rx rest).raise .integrity :=
  (readRegister_of_ok haddr hans use).trans (if_neg (by simp [hrx]))

/-! ### The faults of a register read, in FRD and in FUPD alike -/

section
variable {s : State} {addr : Byte}

theorem readRegister_visible_of_invalid (hs : s.Ready) (haddr : addrValid s.cfg addr = false) (use : ReadUse) :
    (s.start.readRegister addr use).visible = (s.withResult (.fault .config)).visible := by
  rw [readRegister_of_invalid (s := s.start) haddr]
  exact deliver_visible hs.1 rfl _

theorem readRegister_visible_of_ioError {e : ErrToken} {rest : List BusAnswer} (hs : s.Ready)
    (haddr : addrValid s.cfg addr = true) (hans : s.busAnswers = .ioError e :: rest) (use : ReadUse) :
    (s.start.readRegister addr use).visible =
      ((({ s with busAnswers := rest }).withCalls [readCall s addr]).withResult (.fault (.io e))).visible := by
  rw [readRegister_of_ioError (s := s.start) haddr hans]
  exact raise_visible_of_calls hs (readSent_visible ..) _

theorem readRegister_visible_of_rejected {rx : Trio} {rest : List BusAnswer} (hs : s.Ready)
    (haddr : addrValid s.cfg addr = true) (hans : s.busAnswers = .ok rx :: rest)
    (hrx : readAccepted s addr rx = false) (use : ReadUse) :
    (s.start.readRegister addr use).visible =
      ((({ s with busAnswers := rest }).withCalls [readCall s addr]).withResult (.fault .integrity)).visible := by
  rw [readRegister_of_rejected (s := s.start) haddr hans hrx]
  exact raise_visible_of_calls hs (readReceived_visible ..) _

end

/-! ### The operations -/

/-- Settles O22: the ends of the register read, the last of them delivering the received data byte. -/
theorem frdFollowsItsRule : Obligations.FrdFollowsItsRule := by
  intro addr s hs
  have exec_frd : exec (.frd addr) s = .next (s.start.readRegister addr .frd) := (exec_frd_iff addr s _).2 ⟨hs, rfl⟩
  refine ⟨fun haddr => ⟨_, exec_frd, ?_⟩, fun haddr e rest hans => ⟨_, exec_frd, ?_⟩,
    fun haddr rx rest hans => ⟨fun hrx => ⟨_, exec_frd, ?_⟩, fun hrx => ⟨_, exec_frd, ?_⟩⟩⟩
  · exact readRegister_visible_of_invalid hs haddr _
  · exact readRegister_visible_of_ioError hs haddr hans _
  · exact readRegister_visible_of_rejected hs haddr hans hrx _
  · rw [readRegister_of_accepted (s := s.start) haddr hans hrx]
    refine ⟨finish_visible_of_calls hs (readReceived_visible ..) _, ?_⟩
    simp only [State.readDone, State.finish_buf, readReceived_buf, true_and]
    exact fun hcrc => if_pos hcrc

/-- Settles O23: the ends of the register write, the last of them leaving the sent frame in the buffer. -/
theorem fwrFollowsItsRule : Obligations.FwrFollowsItsRule := by
  intro addr value s hs
  have exec_fwr : exec (.fwr addr value) s = .next (s.start.writeRegister addr value .fwr) :=
    (exec_fwr_iff addr value s _).2 ⟨hs, rfl⟩
  refine ⟨fun haddr => ⟨_, exec_fwr, ?_⟩, fun haddr e rest hans => ⟨_, exec_fwr, ?_⟩,
    fun haddr rx rest hans => ⟨_, exec_fwr, ?_⟩⟩
  · rw [writeRegister_of_invalid (s := s.start) haddr]
    exact deliver_visible hs.1 rfl _
  · rw [writeRegister_of_ioError (s := s.start) haddr hans]
    exact raise_visible_of_calls hs (writeSent_visible ..) _
  · rw [writeRegister_of_ok (s := s.start) haddr hans]
    refine ⟨finish_visible_of_calls hs (writeSent_visible ..) _, ?_⟩
    simp only [State.finish_buf, State.dropBus_buf, writeSent_buf, State.start_cfg, true_and]
    exact fun hcrc => if_pos hcrc

/-- Settles O24: the faults of the register read end it, and an accepted read goes on to the register write of the
updated byte. -/
theorem fupdFollowsItsRule : Obligations.FupdFollowsItsRule := by
  intro addr mask value s hs
  have exec_fupd : exec (.fupd addr mask value) s = .next (s.start.readRegister addr (.fupd mask value)) :=
    (exec_fupd_iff addr mask value s _).2 ⟨hs, rfl⟩
  refine ⟨fun haddr => ⟨_, exec_fupd, ?_⟩, fun haddr e rest hans => ⟨_, exec_fupd, ?_⟩,
    fun haddr rx rest hans hrx => ⟨_, exec_fupd, ?_⟩, fun haddr rx e rest hans hrx => ⟨_, exec_fupd, ?_⟩,
    fun haddr rx rx' rest hans hrx => ⟨_, exec_fupd, ?_⟩⟩
  · exact readRegister_visible_of_invalid hs haddr _
  · exact readRegister_visible_of_ioError hs haddr hans _
  · exact readRegister_visible_of_rejected hs haddr hans hrx _
  · rw [readRegister_of_accepted (s := s.start) haddr hans hrx, State.readDone,
      writeRegister_of_ioError (s := s.start.readReceived addr rx _) haddr rfl]
    exact raise_visible_of_calls hs (writeSent_readReceived_visible ..) _
  · rw [readRegister_of_accepted (s := s.start) haddr hans hrx, State.readDone,
      writeRegister_of_ok (s := s.start.readReceived addr rx _) haddr rfl]
    exact finish_visible_of_calls hs (writeSent_readReceived_visible ..) _

end Sys2Proof.Machine
end

section
/-! PROOFS. What a bus observer sees of the framed and the codec operations (41_frame.md R86): they are made of parts
that call exchanges alone and neither write the mode cache nor depend on it. -/

namespace Sys2Proof.Machine

open Sys2Proof

/-! ### Parts of an operation that work on the bus alone -/

/-- The state with another content of the mode cache. -/
def State.withCache (s : State) (m : Option Mode) : State := { s with modeCache := m }

/-- A part of an operation that calls nothing but exchanges, and does the same whatever the mode cache holds, which it
leaves. -/
structure BusOnly (f : State → State) : Prop where
  calls : ∀ s, ∃ new, (f s).calls = s.calls ++ new ∧ ∀ c ∈ new, ∃ tx n, c = .busXfer tx n true
  cache : ∀ s m, f (s.withCache m) = (f s).withCache m

namespace BusOnly

/-- A part without a call. -/
theorem of_no_call {f : State → State} (hcalls : ∀ s, (f s).calls = s.calls)
    (hcache : ∀ s m, f (s.withCache m) = (f s).withCache m) : BusOnly f :=
  ⟨fun s => ⟨[], by simp [hcalls]⟩, hcache⟩

/-- One part after another. -/
theorem comp {f g : State → State} (hf : BusOnly f) (hg : BusOnly g) : BusOnly fun s => g (f s) where
  calls s := by
    obtain ⟨new, hnew, hbus⟩ := hf.calls s
    obtain ⟨new', hnew', hbus'⟩ := hg.calls (f s)
    refine ⟨new ++ new', by rw [hnew', hnew, List.append_assoc], fun c hc => ?_⟩
    exact (List.mem_append.1 hc).elim (hbus c) (hbus' c)
  cache s m := by rw [hf.cache, hg.cache]

/-- One part or another, by a test that does not read the mode cache. -/
theorem ite {p : State → Prop} [∀ s, Decidable (p s)] {f g : State → State}
    (hp : ∀ s m, p (s.withCache m) ↔ p s) (hf : BusOnly f) (hg : BusOnly g) : BusOnly fun s => if p s then f s else g s where
  calls s := by
    split
    · exact hf.calls s
    · exact hg.calls s
  cache s m := by
    simp only [hp]
    split
    · exact hf.cache s m
    · exact hg.cache s m

/-- A wait for the bus and what follows an Ok answer. -/
theorem awaitBus {k : Trio → State → State} (p : SeqStep) (hk : ∀ rx, BusOnly (k rx)) :
    BusOnly fun s => s.awaitBus p k where
  calls s := by
    rcases awaitBus_cases s p k with ⟨-, h⟩ | ⟨e, rest, -, h⟩ | ⟨rx, rest, -, h⟩ <;> rw [h]
    · exact ⟨[], by simp⟩
    · exact ⟨[], by simp⟩
    · exact (hk rx).calls (s.dropBus rest)
  cache s m := by
    rcases awaitBus_cases s p k with ⟨ha, h⟩ | ⟨e, rest, ha, h⟩ | ⟨rx, rest, ha, h⟩ <;> rw [h]
    · exact awaitBus_nil (s := s.withCache m) ha p k
    · exact awaitBus_ioError (s := s.withCache m) ha p k
    · exact (awaitBus_ok (s := s.withCache m) ha p k).trans ((hk rx).cache (s.dropBus rest) m)

/-! ### The framed register transport -/

/-- Loading the CRC registers does not read or write the mode cache. -/
theorem setCrc_withCache (s : State) (c : Option Mode) (u : CrcRegs) :
    (s.withCache c).setCrc u = (s.setCrc u).withCache c := rfl

/-- A run of the CRC unit on bytes that do not come from the mode cache. -/
theorem runCrc {h m l : State → Byte} (hh : ∀ s c, h (s.withCache c) = h s) (hm : ∀ s c, m (s.withCache c) = m s)
    (hl : ∀ s c, l (s.withCache c) = l s) : BusOnly fun s => s.runCrc (h s) (m s) (l s) where
  calls s := ⟨[], by simp⟩
  cache s c := by
    rw [hh, hm, hl]
    exact setCrc_withCache s c _

theorem raise (f : OpFault) : BusOnly fun s => s.raise f := of_no_call (fun _ => rfl) fun _ _ => rfl

/-- An end with a value that does not come from the mode cache. -/
theorem finish {v : State → Value} (hv : ∀ s m, v (s.withCache m) = v s) : BusOnly fun s => s.finish (v s) :=
  of_no_call (fun _ => rfl) fun s m => by rw [hv]; rfl

theorem finishDecode (b0 b1 : Byte) : BusOnly fun s => s.finishDecode b0 b1 := of_no_call (fun _ => rfl) fun _ _ => rfl

/-- The exchange of a frame. -/
theorem issueXfer : BusOnly fun s => s.issueXfer s.frameLen :=
  ⟨fun _ => ⟨[_], rfl, fun _ hc => ⟨_, _, List.mem_singleton.1 hc⟩⟩, fun _ _ => rfl⟩

theorem writeAnswered (use : WriteUse) : BusOnly fun s => s.writeAnswered use :=
  awaitBus _ fun _ => finish fun _ _ => rfl

theorem loadWriteFrame {value : State → Byte} (addr : Byte) (hv : ∀ s m, value (s.withCache m) = value s) :
    BusOnly fun s => s.loadWriteFrame addr (value s) where
  calls s := ⟨[], by rw [loadWriteFrame_eq]; simp [State.runFrameCrc]⟩
  cache s m := by
    rw [loadWriteFrame_eq, loadWriteFrame_eq, hv]
    rfl

/-- A register write of a value that does not come from the mode cache. -/
theorem writeRegister {value : State → Byte} (addr : Byte) (hv : ∀ s m, value (s.withCache m) = value s)
    (use : WriteUse) : BusOnly fun s => s.writeRegister addr (value s) use :=
  .ite (fun _ _ => Iff.rfl) (((loadWriteFrame addr hv).comp issueXfer).comp (writeAnswered use)) (raise _)

theorem readDone (addr : Byte) (use : ReadUse) : BusOnly fun s => s.readDone addr use := by
  cases use with
  | frd => exact finish (v := fun s => byteValue s.buf.b1) fun _ _ => rfl
  | fupd mask value =>
    exact writeRegister (value := fun s => updateByte s.buf.b1 mask value) addr (fun _ _ => rfl) .fupd

/-- The received frame decides, whatever the mode cache holds. -/
theorem readChecked (addr : Byte) (use : ReadUse) : BusOnly fun s => s.readChecked addr use := by
  simp only [readChecked_eq_ite]
  have checked : BusOnly fun s => s.runFrameCrc (responseHigh s.cfg addr s.buf.b0) s.buf.b1 s.buf.b2 :=
    of_no_call (fun _ => rfl) fun _ _ => rfl
  exact .ite (fun _ _ => Iff.rfl) (checked.comp (readDone addr use)) (checked.comp (raise _))

theorem readAnswered (addr : Byte) (use : ReadUse) : BusOnly fun s => s.readAnswered addr use :=
  awaitBus _ fun rx =>
    have received : BusOnly fun s => s.setBuf (receiveInto s.buf rx s.frameLen) :=
      of_no_call (fun _ => rfl) fun _ _ => rfl
    received.comp (readChecked addr use)

theorem readRegister (addr : Byte) (use : ReadUse) : BusOnly fun s => s.readRegister addr use :=
  have loaded : BusOnly fun s => s.loadFrame (ctrl s.cfg false addr) 0 0 := of_no_call (fun _ => rfl) fun _ _ => rfl
  .ite (fun _ _ => Iff.rfl) ((loaded.comp issueXfer).comp (readAnswered addr use)) (raise _)

/-! ### The codec operations -/

theorem crc5 (h m l : Byte) : BusOnly fun s => (s.runCrc h m l).finish (crcValue (s.runCrc h m l).crcOut) :=
  (runCrc (fun _ _ => rfl) (fun _ _ => rfl) fun _ _ => rfl).comp
    (finish (v := fun s => crcValue s.crcOut) fun _ _ => rfl)

theorem crcchk (h m l : Byte) :
    BusOnly fun s => (s.runCrc h m l).finish (crcValue (crcDifference (s.runCrc h m l).crcOut l)) :=
  (runCrc (fun _ _ => rfl) (fun _ _ => rfl) fun _ _ => rfl).comp
    (finish (v := fun s => crcValue (crcDifference s.crcOut l)) fun _ _ => rfl)

theorem fenc (rw : Bool) (addr value : Byte) :
    BusOnly fun s =>
      if addrValid s.cfg addr then
        if s.crcEn then
          (s.runCrc (ctrl s.cfg rw addr) value 0).finish
            (frameValue (ctrl s.cfg rw addr) value (crcByte (s.runCrc (ctrl s.cfg rw addr) value 0).crcOut))
        else s.finish (frameValue (ctrl s.cfg rw addr) value 0)
      else s.raise .config := by
  refine .ite (fun _ _ => Iff.rfl) (.ite (fun _ _ => Iff.rfl) ?_ ?_) (raise _)
  · exact (runCrc (h := fun s => ctrl s.cfg rw addr) (fun _ _ => rfl) (fun _ _ => rfl) fun _ _ => rfl).comp
      (finish (v := fun s => frameValue (ctrl s.cfg rw addr) value (crcByte s.crcOut)) fun _ _ => rfl)
  · exact finish (v := fun s => frameValue (ctrl s.cfg rw addr) value 0) fun _ _ => rfl

theorem fdec (b0 b1 b2 : Byte) :
    BusOnly fun s =>
      if s.crcEn then
        if crcDifference (s.runCrc b0 b1 b2).crcOut b2 = 0 then (s.runCrc b0 b1 b2).finishDecode b0 b1
        else (s.runCrc b0 b1 b2).raise .integrity
      else s.finishDecode b0 b1 := by
  have run : BusOnly fun s => s.runCrc b0 b1 b2 := runCrc (fun _ _ => rfl) (fun _ _ => rfl) fun _ _ => rfl
  have checked : BusOnly fun s =>
      if crcDifference s.crcOut b2 = 0 then s.finishDecode b0 b1 else s.raise .integrity :=
    .ite (fun _ _ => Iff.rfl) (finishDecode b0 b1) (raise _)
  exact .ite (fun _ _ => Iff.rfl) (run.comp checked :) (finishDecode b0 b1)

end BusOnly

/-! ### The operations -/

/-- An operation that is not of the mode-pin unit works on the bus alone (41_frame.md R86). -/
theorem exec_busOnly {i : Instr} (hi : usesPins i = false) :
    ∃ body, BusOnly body ∧ ∀ s, exec i s = accept s body := by
  cases i with
  | crc5 h m l => exact ⟨_, .crc5 h m l, fun _ => rfl⟩
  | crcchk h m l => exact ⟨_, .crcchk h m l, fun _ => rfl⟩
  | fenc rw addr value => exact ⟨_, .fenc rw addr value, fun _ => rfl⟩
  | fdec b0 b1 b2 => exact ⟨_, .fdec b0 b1 b2, fun _ => rfl⟩
  | frd addr => exact ⟨_, .readRegister addr .frd, fun _ => rfl⟩
  | fwr addr value => exact ⟨_, .writeRegister (value := fun _ => value) addr (fun _ _ => rfl) .fwr, fun _ => rfl⟩
  | fupd addr mask value => exact ⟨_, .readRegister addr (.fupd mask value), fun _ => rfl⟩
  | msel | mrd | mwr | mch => cases hi

/-- The calls of such an operation are exchanges. -/
theorem exec_calls_of_not_usesPins {i : Instr} {s t : State} (hi : usesPins i = false) (h : exec i s = .next t) :
    ∀ c ∈ t.calls.drop s.calls.length, ∃ tx n, c = .busXfer tx n true := by
  obtain ⟨body, hbody, hexec⟩ := exec_busOnly hi
  obtain ⟨-, rfl⟩ := (accept_eq_next_iff ..).1 (hexec s ▸ h)
  obtain ⟨new, hnew, hbus⟩ := hbody.calls s.start
  rwa [hnew, State.start_calls, List.drop_left]

/-- Such an operation does the same whatever the mode cache holds. -/
theorem exec_withCache_of_not_usesPins {i : Instr} {s t : State} (hi : usesPins i = false) (h : exec i s = .next t)
    (m : Option Mode) : exec i (s.withCache m) = .next (t.withCache m) := by
  obtain ⟨body, hbody, hexec⟩ := exec_busOnly hi
  obtain ⟨hs, rfl⟩ := (accept_eq_next_iff ..).1 (hexec s ▸ h)
  rw [hexec, ← hbody.cache]
  exact accept_of_ready (s := s.withCache m) hs body

/-- The codec operations make no call. -/
theorem exec_calls_of_not_mayFailIo {i : Instr} {s t : State} (hi : mayFailIo i = false) (h : exec i s = .next t) :
    t.calls = s.calls := by
  cases i with
  | crc5 high mid low => obtain ⟨-, rfl⟩ := (exec_crc5_iff ..).1 h; simp
  | crcchk high mid low => obtain ⟨-, rfl⟩ := (exec_crcchk_iff ..).1 h; simp
  | fenc rw addr value =>
    obtain ⟨hs, -⟩ := (exec_fenc_iff ..).1 h
    obtain ⟨u, hexec⟩ := exec_fenc_of_ready hs rw addr value
    cases hexec.symm.trans h
    rfl
  | fdec b0 b1 b2 =>
    obtain ⟨hs, -⟩ := (exec_fdec_iff ..).1 h
    obtain ⟨u, hexec⟩ := exec_fdec_of_ready hs b0 b1 b2
    cases hexec.symm.trans h
    rfl
  | frd | fwr | fupd | msel | mrd | mwr | mch => cases hi

/-! ### The calls in the decided layout -/

theorem readCall_of_decidedLayout {s : State} {a : Byte} (hlayout : s.cfg.decidedLayout = true)
    (ha : addrValid s.cfg a = true) :
    readCall s a = if s.crcEn then .busXfer [a, 0, 0] 3 true else .busXfer [a, 0] 2 true := by
  obtain ⟨hread, -⟩ := controlByteOfTheDecidedLayout s.cfg a hlayout (addrValid_le ha)
  rw [readCall, hread]
  cases s.crcEn <;> rfl

theorem writeCall_of_decidedLayout {s : State} {a : Byte} (hlayout : s.cfg.decidedLayout = true)
    (ha : addrValid s.cfg a = true) (v : Byte) :
    writeCall s a v =
      if s.crcEn then .busXfer [0x80 ||| a, v, (crc5 (0x80 ||| a) v 0).setWidth 8] 3 true
      else .busXfer [0x80 ||| a, v] 2 true := by
  obtain ⟨-, hwrite, -⟩ := controlByteOfTheDecidedLayout s.cfg a hlayout (addrValid_le ha)
  rw [writeCall, hwrite]
  cases s.crcEn <;> rfl

/-- The calls made are part of what the rules of the transport fix. -/
theorem calls_of_visible_eq {s t : State} {rest : List BusAnswer} {cs : List Call} {r : Result}
    (h : t.visible = ((({ s with busAnswers := rest }).withCalls cs).withResult r).visible) :
    t.calls = s.calls ++ cs := by
  obtain ⟨-, -, -, -, -, -, -, -, -, -, hcalls, -⟩ := (visible_eq_iff _ _).1 h
  exact hcalls

/-- Settles O25: the calls of the transports are those of their rules, with the control byte of the decided layout; the
rest holds because the operations work on the bus alone. -/
theorem framedOperationsAsABusObserverSeesThem : Obligations.FramedOperationsAsABusObserverSeesThem := by
  refine ⟨fun a s rx rest hs hlayout ha hans hrx => ?_, fun a v s rx rest hs hlayout ha hans => ?_,
    fun a mask value s rx rx' rest hs hlayout ha hans hrx => ?_, fun i s t => exec_calls_of_not_mayFailIo,
    fun i s t hi h => ?_⟩
  · obtain ⟨-, -, ends⟩ := frdFollowsItsRule a s hs
    obtain ⟨-, accepted⟩ := ends ha rx rest hans
    obtain ⟨t, hexec, hvis, -⟩ := accepted hrx
    exact ⟨t, hexec, by rw [calls_of_visible_eq hvis, readCall_of_decidedLayout hlayout ha]⟩
  · obtain ⟨-, -, ends⟩ := fwrFollowsItsRule a v s hs
    obtain ⟨t, hexec, hvis, -⟩ := ends ha rx rest hans
    exact ⟨t, hexec, by rw [calls_of_visible_eq hvis, writeCall_of_decidedLayout hlayout ha]⟩
  · obtain ⟨-, -, -, -, ends⟩ := fupdFollowsItsRule a mask value s hs
    obtain ⟨t, hexec, hvis⟩ := ends ha rx rx' rest hans hrx
    refine ⟨t, hexec, ?_⟩
    rw [calls_of_visible_eq hvis, readCall_of_decidedLayout hlayout ha, writeCall_of_decidedLayout hlayout ha]
    rfl
  · have same := exec_selection_of_not_usesPins hi h
    simp only [State.selection, Prod.mk.injEq] at same
    obtain ⟨-, hcache, ha0, ha1⟩ := same
    exact ⟨exec_calls_of_not_usesPins hi h, hcache, ha0, ha1, exec_withCache_of_not_usesPins hi h⟩

end Sys2Proof.Machine
end

section
/-! PROOFS. The mode selection (42_modepin.md R100): where it can stop, and the operations of the mode-pin unit as a
selection and what follows it. -/

namespace Sys2Proof.Machine

open Sys2Proof

/-! ### A selection that ends Ok -/

/-- The effect of a selection field by field: on a hit no pin is written, and the target is cached already. -/
theorem afterSelect_eq (s : State) (m : Mode) :
    s.afterSelect m =
      { s with
        pinA0 := if s.modeCache = some m then s.pinA0 else (pinsOf s.cfg m).a0
        pinA1 := if s.modeCache = some m then s.pinA1 else (pinsOf s.cfg m).a1
        modeCache := some m
        pinAnswers := if s.modeCache = some m then s.pinAnswers else s.pinAnswers.drop 2
        calls := s.calls ++ selectCalls s m } := by
  unfold State.afterSelect
  split
  case isTrue hhit => simp [selectCalls, ← hhit]
  case isFalse => simp

@[simp] theorem afterSelect_cfg (s : State) (m : Mode) : (s.afterSelect m).cfg = s.cfg := by rw [afterSelect_eq]
@[simp] theorem afterSelect_buf (s : State) (m : Mode) : (s.afterSelect m).buf = s.buf := by rw [afterSelect_eq]
@[simp] theorem afterSelect_modeCache (s : State) (m : Mode) : (s.afterSelect m).modeCache = some m := by
  rw [afterSelect_eq]
@[simp] theorem afterSelect_busy (s : State) (m : Mode) : (s.afterSelect m).busy = s.busy := by rw [afterSelect_eq]
@[simp] theorem afterSelect_released (s : State) (m : Mode) : (s.afterSelect m).released = s.released := by
  rw [afterSelect_eq]
@[simp] theorem afterSelect_busAnswers (s : State) (m : Mode) : (s.afterSelect m).busAnswers = s.busAnswers := by
  rw [afterSelect_eq]
@[simp] theorem afterSelect_results (s : State) (m : Mode) : (s.afterSelect m).results = s.results := by
  rw [afterSelect_eq]
@[simp] theorem afterSelect_calls (s : State) (m : Mode) : (s.afterSelect m).calls = s.calls ++ selectCalls s m := by
  rw [afterSelect_eq]

theorem afterSelect_start (s : State) (m : Mode) : s.start.afterSelect m = (s.afterSelect m).start := by
  rw [afterSelect_eq, afterSelect_eq]
  rfl

theorem afterSelect_ready {s : State} (hs : s.Ready) (m : Mode) : (s.afterSelect m).Ready := by
  simpa [State.Ready] using hs

theorem afterSelect_of_hit {s : State} {m : Mode} (hhit : s.modeCache = some m) : s.afterSelect m = s := if_pos hhit

/-- A selection that writes both pins (42_modepin.md R100 steps 4 to 7). -/
theorem afterSelect_of_miss {s : State} {m : Mode} {rest : List PinAnswer} (hmiss : s.modeCache ≠ some m)
    (hans : s.pinAnswers = .ok :: .ok :: rest) :
    s.afterSelect m =
      ({ s with
          pinAnswers := rest
          pinA0 := (pinsOf s.cfg m).a0
          pinA1 := (pinsOf s.cfg m).a1
          modeCache := some m }).withCalls
        [.pinSet .a0 (pinsOf s.cfg m).a0, .pinSet .a1 (pinsOf s.cfg m).a1, .delay s.cfg.tModeSettle] := by
  simp [State.afterSelect, selectCalls, State.withCalls, hmiss, hans]

/-! ### Where a selection can stop -/

/-- The write of pin A0 is called, and `rest` is what the pin primitive has still to answer (42_modepin.md R100
step 4). -/
def State.pinA0Called (s : State) (m : Mode) (rest : List PinAnswer) : State :=
  (s.issue (.pinSet .a0 (pinsOf s.cfg m).a0)).dropPin rest

/-- Pin A0 is written, and the write of pin A1 is called (42_modepin.md R100 step 5). -/
def State.pinA1Called (s : State) (m : Mode) (rest : List PinAnswer) : State :=
  (((s.issue (.pinSet .a0 (pinsOf s.cfg m).a0)).setPinA0 (pinsOf s.cfg m).a0).issue
    (.pinSet .a1 (pinsOf s.cfg m).a1)).dropPin rest

section
variable {s : State} {m : Mode}

theorem selectMode_of_hit (hhit : s.modeCache = some m) (use : SelectUse) : s.selectMode m use = s.selected use :=
  if_pos hhit

theorem selectMode_of_miss (hmiss : s.modeCache ≠ some m) (use : SelectUse) :
    s.selectMode m use = (s.pinA0Called m s.pinAnswers).pinA0Answered m use := if_neg hmiss

theorem selectMode_of_nil (hmiss : s.modeCache ≠ some m) (hans : s.pinAnswers = []) (use : SelectUse) :
    s.selectMode m use = (s.pinA0Called m []).waitAt (.pinA0 m use) := by
  rw [selectMode_of_miss hmiss, hans]
  exact awaitPin_nil (s := s.pinA0Called m []) rfl _ _

theorem selectMode_of_pinError {e : ErrToken} {rest : List PinAnswer} (hmiss : s.modeCache ≠ some m)
    (hans : s.pinAnswers = .pinError e :: rest) (use : SelectUse) :
    s.selectMode m use = (s.pinA0Called m rest).raise (.io e) := by
  rw [selectMode_of_miss hmiss, hans]
  exact awaitPin_pinError (s := s.pinA0Called m (.pinError e :: rest)) rfl _ _

theorem selectMode_of_ok {rest : List PinAnswer} (hmiss : s.modeCache ≠ some m) (hans : s.pinAnswers = .ok :: rest)
    (use : SelectUse) : s.selectMode m use = (s.pinA1Called m rest).pinA1Answered m use := by
  rw [selectMode_of_miss hmiss, hans]
  exact awaitPin_ok (s := s.pinA0Called m (.ok :: rest)) rfl _ _

theorem selectMode_of_ok_nil (hmiss : s.modeCache ≠ some m) (hans : s.pinAnswers = [.ok]) (use : SelectUse) :
    s.selectMode m use = (s.pinA1Called m []).waitAt (.pinA1 m use) := by
  rw [selectMode_of_ok hmiss hans]
  exact awaitPin_nil (s := s.pinA1Called m []) rfl _ _

theorem selectMode_of_ok_pinError {e : ErrToken} {rest : List PinAnswer} (hmiss : s.modeCache ≠ some m)
    (hans : s.pinAnswers = .ok :: .pinError e :: rest) (use : SelectUse) :
    s.selectMode m use = (s.pinA1Called m rest).raise (.io e) := by
  rw [selectMode_of_ok hmiss hans]
  exact awaitPin_pinError (s := s.pinA1Called m (.pinError e :: rest)) rfl _ _

/-- A selection that can end Ok does, and what follows it runs from its effect. -/
theorem selectMode_of_selectable (h : s.selectable m) (use : SelectUse) :
    s.selectMode m use = (s.afterSelect m).selected use := by
  by_cases hhit : s.modeCache = some m
  case pos => rw [selectMode_of_hit hhit, afterSelect_of_hit hhit]
  case neg =>
    obtain ⟨rest, hans⟩ := h.resolve_left hhit
    have written : s.afterSelect m =
        ((((s.pinA1Called m (.ok :: rest)).dropPin rest).setPinA1 (pinsOf s.cfg m).a1).setCache m).issue
          (.delay s.cfg.tModeSettle) := by
      simp [afterSelect_of_miss hhit hans, State.pinA1Called, State.withCalls, State.issue, State.dropPin,
        State.setPinA0, State.setPinA1, State.setCache]
    rw [selectMode_of_ok hhit hans, written]
    exact awaitPin_ok (s := s.pinA1Called m (.ok :: rest)) rfl _ _

end

/-- What has not changed at `u`, the call of one of the two pin writes of a selection of `m` that began at `s`: all but
pin A0 (42_modepin.md R105). -/
structure State.Selecting (s : State) (m : Mode) (u : State) : Prop where
  cfg : u.cfg = s.cfg
  released : u.released = s.released
  results : u.results = s.results
  modeCache : u.modeCache = s.modeCache
  pinA0 : u.pinA0 = s.pinA0 ∨ u.pinA0 = (pinsOf s.cfg m).a0
  pinA1 : u.pinA1 = s.pinA1

theorem pinA0Called_selecting (s : State) (m : Mode) (rest : List PinAnswer) : s.Selecting m (s.pinA0Called m rest) :=
  ⟨rfl, rfl, rfl, rfl, .inl rfl, rfl⟩

theorem pinA1Called_selecting (s : State) (m : Mode) (rest : List PinAnswer) : s.Selecting m (s.pinA1Called m rest) :=
  ⟨rfl, rfl, rfl, rfl, .inr rfl, rfl⟩

/-- Everything a mode selection can do, whatever follows it: end Ok, or, on a miss, wait for a pin write or fail at
it. -/
theorem selectMode_cases (s : State) (m : Mode) :
    (s.selectable m ∧ ∀ use, s.selectMode m use = (s.afterSelect m).selected use) ∨
    (s.modeCache ≠ some m ∧ ∃ u, s.Selecting m u ∧
      ((∀ use, ∃ p, s.selectMode m use = u.waitAt p) ∨ ∃ e, ∀ use, s.selectMode m use = u.raise (.io e))) := by
  by_cases hhit : s.modeCache = some m
  case pos => exact .inl ⟨.inl hhit, selectMode_of_selectable (.inl hhit)⟩
  case neg =>
    rcases hans : s.pinAnswers with _ | ⟨_ | e, rest⟩
    · exact .inr ⟨hhit, _, pinA0Called_selecting s m [], .inl fun use => ⟨_, selectMode_of_nil hhit hans use⟩⟩
    · rcases rest with _ | ⟨_ | e, rest⟩
      · exact .inr ⟨hhit, _, pinA1Called_selecting s m [], .inl fun use => ⟨_, selectMode_of_ok_nil hhit hans use⟩⟩
      · have hsel : s.selectable m := .inr ⟨rest, hans⟩
        exact .inl ⟨hsel, selectMode_of_selectable hsel⟩
      · exact .inr ⟨hhit, _, pinA1Called_selecting s m rest, .inr ⟨e, selectMode_of_ok_pinError hhit hans⟩⟩
    · exact .inr ⟨hhit, _, pinA0Called_selecting s m rest, .inr ⟨e, selectMode_of_pinError hhit hans⟩⟩

/-- An MSEL that delivers a fault has missed, and any operation with the same target fails as it does. -/
theorem selecting_of_msel_fault {s : State} {m : Mode} {f : OpFault}
    (h : (s.selectMode m .msel).results = s.results ++ [.fault f]) :
    s.modeCache ≠ some m ∧ ∃ u, s.Selecting m u ∧ ∀ use, s.selectMode m use = u.raise f := by
  rcases selectMode_cases s m with ⟨-, hok⟩ | ⟨hmiss, u, hu, hwait | ⟨e, hfail⟩⟩
  · simp [hok, State.selected] at h
  · obtain ⟨p, hp⟩ := hwait .msel
    simp [hp, hu.results] at h
  · obtain rfl : OpFault.io e = f := by simpa [hfail, hu.results] using h
    exact ⟨hmiss, u, hu, hfail⟩

/-- An MSEL that delivers Ok has selected. -/
theorem selectable_of_msel_ok {s : State} {m : Mode} {v : Value}
    (h : (s.selectMode m .msel).results = s.results ++ [.ok v]) : s.selectable m := by
  rcases selectMode_cases s m with ⟨hsel, -⟩ | ⟨-, u, hu, hwait | ⟨e, hfail⟩⟩
  · exact hsel
  · obtain ⟨p, hp⟩ := hwait .msel
    simp [hp, hu.results] at h
  · simp [hfail, hu.results] at h

/-! ### The operations of the mode-pin unit -/

/-- What follows the mode selection of an operation of the mode-pin unit. -/
def selectUse : Instr → Option SelectUse
  | .msel _ => some .msel
  | .mrd addr => some (.mrd addr)
  | .mwr addr value => some (.mwr addr value)
  | .mch _ => some .mch
  | .crc5 _ _ _ | .fenc _ _ _ | .fdec _ _ _ | .frd _ | .fwr _ _ | .fupd _ _ _ | .crcchk _ _ _ => none

theorem exists_selectUse_of_usesPins {i : Instr} (hi : usesPins i = true) : ∃ use, selectUse i = some use := by
  cases i with
  | msel | mrd | mwr | mch => exact ⟨_, rfl⟩
  | crc5 | crcchk | fenc | fdec | frd | fwr | fupd => cases hi

/-- An operation of the mode-pin unit selects its target, or refuses its operand, and goes on. -/
theorem exec_iff_of_selectUse {i : Instr} {use : SelectUse} (hi : selectUse i = some use) (s t : State) :
    exec i s = .next t ↔ s.PinReady ∧ t = s.start.selectOrRefuse (targetMode s.cfg i) use := by
  cases i with
  | msel mode => cases hi; exact exec_msel_iff mode s t
  | mrd addr => cases hi; exact exec_mrd_iff addr s t
  | mwr addr value => cases hi; exact exec_mwr_iff addr value s t
  | mch mode => cases hi; exact exec_mch_iff mode s t
  | crc5 | crcchk | fenc | fdec | frd | fwr | fupd => cases hi

section
variable {i : Instr} {use : SelectUse} {s : State}

/-- A refused operand ends the operation before any activity (60_exceptions.md R127). -/
theorem exec_of_no_target (hs : s.PinReady) (hi : selectUse i = some use) (htarget : targetMode s.cfg i = none) :
    ∃ t, exec i s = .next t ∧ t.visible = (s.withResult (.fault .config)).visible := by
  refine ⟨_, (exec_iff_of_selectUse hi s _).2 ⟨hs, rfl⟩, ?_⟩
  rw [htarget]
  exact deliver_visible hs.1.1 rfl _

variable {m : Mode}

theorem exec_of_target (hs : s.PinReady) (hi : selectUse i = some use) (htarget : targetMode s.cfg i = some m) :
    exec i s = .next (s.start.selectMode m use) :=
  (exec_iff_of_selectUse hi s _).2 ⟨hs, by rw [htarget]; rfl⟩

theorem exec_of_selectable (hs : s.PinReady) (hi : selectUse i = some use) (htarget : targetMode s.cfg i = some m)
    (hsel : s.selectable m) : exec i s = .next ((s.afterSelect m).start.selected use) := by
  rw [exec_of_target hs hi htarget, selectMode_of_selectable (s := s.start) hsel, afterSelect_start]

/-- An operation whose mode selection fails ends as MSEL of its target does (42_modepin.md R101 to R103 step 2). -/
theorem exec_of_msel_fault {code : BitVec 2} {u : State} {f : OpFault} (hi : selectUse i = some use)
    (htarget : targetMode s.cfg i = some m) (hcode : modeOfCode code = some m) (hu : exec (.msel code) s = .next u)
    (hf : u.results = s.results ++ [.fault f]) : exec i s = .next u := by
  obtain ⟨hs, rfl⟩ := (exec_msel_iff ..).1 hu
  rw [hcode, State.selectOrRefuse] at hf ⊢
  obtain ⟨-, v, -, hfail⟩ := selecting_of_msel_fault (s := s.start) hf
  rw [exec_of_target hs hi htarget, hfail, hfail]

end

end Sys2Proof.Machine
end

section
/-! PROOFS. MSEL (42_modepin.md R100, R104) and what every operation leaves of cache and pins (R105). -/

namespace Sys2Proof.Machine

open Sys2Proof

/-! ### The ends of MSEL -/

/-- Settles O26: each end of the selection, with nothing after it. -/
theorem mselFollowsItsRule : Obligations.MselFollowsItsRule := by
  intro code s hs
  have exec_msel {m : Mode} (hcode : modeOfCode code = some m) :
      exec (.msel code) s = .next (s.start.selectMode m .msel) := exec_of_target hs rfl hcode
  refine ⟨exec_of_no_target (i := .msel code) hs rfl, fun m hcode hhit => ⟨_, exec_msel hcode, ?_⟩,
    fun m hcode hmiss => ⟨fun e rest hans => ⟨_, exec_msel hcode, ?_⟩, fun e rest hans => ⟨_, exec_msel hcode, ?_⟩,
      fun rest hans => ⟨_, exec_of_selectable hs rfl hcode (.inr ⟨rest, hans⟩), ?_⟩⟩⟩
  · rw [selectMode_of_hit (s := s.start) hhit]
    exact ⟨deliver_visible hs.1.1 rfl _, rfl⟩
  · rw [selectMode_of_pinError (s := s.start) hmiss hans]
    exact deliver_visible (s := State.withCalls { s with pinAnswers := rest } _) hs.1.1 rfl _
  · rw [selectMode_of_ok_pinError (s := s.start) hmiss hans]
    refine deliver_visible (s := State.withCalls { s with pinAnswers := rest, pinA0 := _ } _) hs.1.1 ?_ _
    simp [visible_eq_iff, State.pinA1Called]
  · rw [← afterSelect_of_miss hmiss hans]
    exact ⟨deliver_visible (afterSelect_ready hs.1 m).1 rfl _, afterSelect_buf s m⟩

/-! ### Nothing is put back -/

/-- What any operation does to cache and latches: nothing; only pin A0 written, to the target's level; or the target
cached with both pins at its levels. -/
theorem exec_selection_cases {i : Instr} {s t : State} (h : exec i s = .next t) :
    t.selection = s.selection ∨
    ∃ m, targetMode s.cfg i = some m ∧
      (t.selection = (s.cfg, s.modeCache, (pinsOf s.cfg m).a0, s.pinA1) ∨
        t.selection = (s.cfg, some m, (pinsOf s.cfg m).a0, (pinsOf s.cfg m).a1)) := by
  cases hpins : usesPins i with
  | false => exact .inl (exec_selection_of_not_usesPins hpins h)
  | true =>
    obtain ⟨use, hi⟩ := exists_selectUse_of_usesPins hpins
    obtain ⟨-, rfl⟩ := (exec_iff_of_selectUse hi s t).1 h
    cases htarget : targetMode s.cfg i with
    | none => exact .inl rfl
    | some m =>
      have selecting {u : State} (hu : s.start.Selecting m u) :
          u.selection = s.selection ∨ u.selection = (s.cfg, s.modeCache, (pinsOf s.cfg m).a0, s.pinA1) := by
        simpa [State.selection, hu.cfg, hu.modeCache, hu.pinA1] using hu.pinA0
      rw [State.selectOrRefuse]
      rcases selectMode_cases s.start m with ⟨hsel, hok⟩ | ⟨-, u, hu, hwait | ⟨e, hfail⟩⟩
      · rw [hok, selected_selection]
        by_cases hhit : s.modeCache = some m
        case pos => exact .inl (by rw [afterSelect_of_hit (s := s.start) hhit, State.start_selection])
        case neg => exact .inr ⟨m, rfl, .inr (by simp [afterSelect_eq, State.selection, hhit])⟩
      · obtain ⟨p, hp⟩ := hwait use
        rw [hp, State.waitAt_selection]
        exact (selecting hu).imp_right fun hu => ⟨m, rfl, .inl hu⟩
      · rw [hfail, State.raise_selection]
        exact (selecting hu).imp_right fun hu => ⟨m, rfl, .inl hu⟩

/-! ### MSEL twice -/

/-- A mode stays cached through every operation that selects no other (42_modepin.md R104). -/
theorem exec_keeps_modeCache {i : Instr} {s t : State} {m : Mode} (hcache : s.modeCache = some m)
    (h : exec i s = .next t) (htarget : targetMode s.cfg i = none ∨ targetMode s.cfg i = some m) :
    t.modeCache = some m := by
  rcases exec_selection_cases h with hsame | ⟨m', hm', hmoved⟩
  · exact (congrArg (·.2.1) hsame).trans hcache
  · obtain rfl : m' = m := by simpa [hm'] using htarget
    rcases hmoved with hmoved | hmoved
    · exact (congrArg (·.2.1) hmoved).trans hcache
    · exact congrArg (·.2.1) hmoved

/-- Settles O27: after Ok the mode is cached, so the next MSEL hits; a fault leaves the cache without it, so the next
misses. -/
theorem mselIsIdempotentUnderTheCache : Obligations.MselIsIdempotentUnderTheCache := by
  intro code m s t hcode h
  obtain ⟨hs, rfl⟩ := (exec_msel_iff ..).1 h
  rw [hcode, State.selectOrRefuse]
  refine ⟨fun hok => ?_, fun e hfault => ?_⟩
  · have selected := selectMode_of_selectable (selectable_of_msel_ok (s := s.start) hok) .msel
    rw [selected, afterSelect_start]
    have hready : ((s.afterSelect m).start.finish 0).PinReady := by
      simpa [State.PinReady, State.Ready] using ⟨hs.1.2, hs.2⟩
    have hcached : ((s.afterSelect m).start.finish 0).modeCache = some m := afterSelect_modeCache s m
    obtain ⟨-, hit, -⟩ := mselFollowsItsRule code _ hready
    obtain ⟨u, hu, hvis, -⟩ := hit m hcode hcached
    exact ⟨⟨u, hu, hvis⟩, fun i t' u' ht' _ hu' htarget => exec_keeps_modeCache ht' hu' htarget⟩
  · obtain ⟨hmiss, u, hu, hfail⟩ := selecting_of_msel_fault (s := s.start) hfault
    rw [hfail]
    refine ⟨hmiss, hu.modeCache, fun rest hans => ?_⟩
    have hready : (u.raise (.io e)).PinReady := by
      simpa [State.PinReady, State.Ready, hu.cfg, hu.released] using ⟨hs.1.2, hs.2⟩
    obtain ⟨-, -, miss⟩ := mselFollowsItsRule code _ hready
    obtain ⟨-, -, both⟩ := miss m hcode (hu.modeCache.trans_ne hmiss)
    obtain ⟨v, hv, hvis, -⟩ := both rest hans
    obtain ⟨-, -, -, -, -, -, -, -, -, -, hcalls, hresults⟩ := (visible_eq_iff _ _).1 hvis
    refine ⟨v, hv, hresults, ?_⟩
    simpa [hu.cfg] using hcalls

end Sys2Proof.Machine
end

section
/-! PROOFS. The transports of the mode-pin unit (42_modepin.md R101 to R103): each end of MRD, MWR and MCH after their
mode selection, and that nothing else is put back (R105). -/

namespace Sys2Proof.Machine

open Sys2Proof

/-! ### The exchanges that follow a selection -/

/-- One byte is exchanged, and `rest` is what the bus has still to answer (42_modepin.md R101, R102 step 3). -/
def State.byteSent (s : State) (b : Byte) (rest : List BusAnswer) : State := (s.sendByte b).dropBus rest

/-- Two bytes are exchanged, each in an exchange of its own (42_modepin.md R101, R102 step 4). -/
def State.bytesSent (s : State) (b b' : Byte) (rest : List BusAnswer) : State :=
  ((s.sendByte b).sendByte b').dropBus rest

/-- Two zero bytes are exchanged in one exchange (42_modepin.md R103 step 3). -/
def State.channelSent (s : State) (rest : List BusAnswer) : State :=
  ((s.setBuf { s.buf with b0 := 0, b1 := 0 }).issue (.busXfer [0, 0] 2 true)).dropBus rest

theorem byteSent_visible (s : State) (b : Byte) (rest : List BusAnswer) :
    (s.start.byteSent b rest).visible = (({ s with busAnswers := rest }).withCalls [byteCall b]).start.visible := rfl

theorem bytesSent_visible (s : State) (b b' : Byte) (rest : List BusAnswer) :
    (s.start.bytesSent b b' rest).visible =
      (({ s with busAnswers := rest }).withCalls [byteCall b, byteCall b']).start.visible := by
  simp [visible_eq_iff, State.bytesSent, byteCall]

theorem channelSent_visible (s : State) (rest : List BusAnswer) :
    (s.start.channelSent rest).visible =
      (({ s with busAnswers := rest }).withCalls [.busXfer [0, 0] 2 true]).start.visible := rfl

theorem setBuf0_visible (s : State) (b : Byte) : (s.setBuf0 b).visible = s.visible := rfl

theorem setBuf_visible (s : State) (b : Trio) : (s.setBuf b).visible = s.visible := rfl

section
variable {s : State} {rx rx' : Trio} {e : ErrToken} {rest : List BusAnswer}

theorem selected_mrd_of_ioError (hans : s.busAnswers = .ioError e :: rest) (addr : Byte) :
    s.selected (.mrd addr) = (s.byteSent addr rest).raise (.io e) := by
  rw [State.selected]
  exact awaitBus_ioError (s := s.sendByte addr) hans _ _

theorem selected_mrd_of_ok (hans : s.busAnswers = .ok rx :: rest) (addr : Byte) :
    s.selected (.mrd addr) = (s.bytesSent addr addr rest).mrdSecondAnswered := by
  rw [State.selected]
  exact awaitBus_ok (s := s.sendByte addr) hans _ _

theorem selected_mrd_of_ok_ioError (hans : s.busAnswers = .ok rx :: .ioError e :: rest) (addr : Byte) :
    s.selected (.mrd addr) = (s.bytesSent addr addr rest).raise (.io e) := by
  rw [selected_mrd_of_ok hans]
  exact awaitBus_ioError (s := s.bytesSent addr addr (.ioError e :: rest)) rfl _ _

theorem selected_mrd_of_ok_ok (hans : s.busAnswers = .ok rx :: .ok rx' :: rest) (addr : Byte) :
    s.selected (.mrd addr) = ((s.bytesSent addr addr rest).setBuf0 rx'.b0).finish (byteValue rx'.b0) := by
  rw [selected_mrd_of_ok hans]
  exact awaitBus_ok (s := s.bytesSent addr addr (.ok rx' :: rest)) rfl _ _

theorem selected_mwr_of_ioError (hans : s.busAnswers = .ioError e :: rest) (addr value : Byte) :
    s.selected (.mwr addr value) = (s.byteSent addr rest).raise (.io e) := by
  rw [State.selected]
  exact awaitBus_ioError (s := s.sendByte addr) hans _ _

theorem selected_mwr_of_ok (hans : s.busAnswers = .ok rx :: rest) (addr value : Byte) :
    s.selected (.mwr addr value) = (s.bytesSent addr value rest).mwrValueAnswered := by
  rw [State.selected]
  exact awaitBus_ok (s := s.sendByte addr) hans _ _

theorem selected_mwr_of_ok_ioError (hans : s.busAnswers = .ok rx :: .ioError e :: rest) (addr value : Byte) :
    s.selected (.mwr addr value) = (s.bytesSent addr value rest).raise (.io e) := by
  rw [selected_mwr_of_ok hans]
  exact awaitBus_ioError (s := s.bytesSent addr value (.ioError e :: rest)) rfl _ _

theorem selected_mwr_of_ok_ok (hans : s.busAnswers = .ok rx :: .ok rx' :: rest) (addr value : Byte) :
    s.selected (.mwr addr value) = (s.bytesSent addr value rest).finish 0 := by
  rw [selected_mwr_of_ok hans]
  exact awaitBus_ok (s := s.bytesSent addr value (.ok rx' :: rest)) rfl _ _

theorem selected_mch_of_ioError (hans : s.busAnswers = .ioError e :: rest) :
    s.selected .mch = (s.channelSent rest).raise (.io e) := by
  rw [State.selected, State.mchSend]
  exact awaitBus_ioError (s := s.channelSent s.busAnswers) hans _ _

theorem selected_mch_of_ok (hans : s.busAnswers = .ok rx :: rest) :
    s.selected .mch =
      ((s.channelSent rest).setBuf { s.buf with b0 := rx.b0, b1 := rx.b1 }).finish (channelValue rx.b0 rx.b1) := by
  rw [State.selected, State.mchSend]
  exact awaitBus_ok (s := s.channelSent s.busAnswers) hans _ _

end

section
variable {i : Instr} {s : State} {m : Mode} {c d : Call} {rx : Trio} {e : ErrToken} {rest : List BusAnswer}

/-- The first exchange of MRD, MWR or MCH fails: it ends the operation, the selection made before stays made
(42_modepin.md R105). -/
theorem exec_of_firstExchange_ioError (hs : s.PinReady) (htarget : targetMode s.cfg i = some m)
    (hc : firstExchange s i = some c) (hsel : s.selectable m) (hans : s.busAnswers = .ioError e :: rest) :
    ∃ t, exec i s = .next t ∧
      t.visible =
        ((({ s.afterSelect m with busAnswers := rest }).withCalls [c]).withResult (.fault (.io e))).visible := by
  have hready := afterSelect_ready hs.1 m
  have hans' : (s.afterSelect m).start.busAnswers = .ioError e :: rest := (afterSelect_busAnswers s m).trans hans
  cases i with
  | mrd addr =>
    cases hc
    refine ⟨_, exec_of_selectable hs rfl htarget hsel, ?_⟩
    rw [selected_mrd_of_ioError hans']
    exact raise_visible_of_calls hready (byteSent_visible ..) _
  | mwr addr value =>
    cases hc
    refine ⟨_, exec_of_selectable hs rfl htarget hsel, ?_⟩
    rw [selected_mwr_of_ioError hans']
    exact raise_visible_of_calls hready (byteSent_visible ..) _
  | mch mode =>
    cases hc
    refine ⟨_, exec_of_selectable hs rfl htarget hsel, ?_⟩
    rw [selected_mch_of_ioError hans']
    exact raise_visible_of_calls hready (channelSent_visible ..) _
  | msel => cases hc
  | crc5 | crcchk | fenc | fdec | frd | fwr | fupd => cases htarget

/-- The second exchange of MRD or MWR fails, likewise. -/
theorem exec_of_secondExchange_ioError (hs : s.PinReady) (htarget : targetMode s.cfg i = some m)
    (hc : firstExchange s i = some c) (hd : secondExchange s rx i = some d) (hsel : s.selectable m)
    (hans : s.busAnswers = .ok rx :: .ioError e :: rest) :
    ∃ t, exec i s = .next t ∧
      t.visible =
        ((({ s.afterSelect m with busAnswers := rest }).withCalls [c, d]).withResult (.fault (.io e))).visible := by
  have hready := afterSelect_ready hs.1 m
  have hans' : (s.afterSelect m).start.busAnswers = .ok rx :: .ioError e :: rest :=
    (afterSelect_busAnswers s m).trans hans
  cases i with
  | mrd addr =>
    cases hc
    cases hd
    refine ⟨_, exec_of_selectable hs rfl htarget hsel, ?_⟩
    rw [selected_mrd_of_ok_ioError hans']
    exact raise_visible_of_calls hready (bytesSent_visible ..) _
  | mwr addr value =>
    cases hc
    cases hd
    refine ⟨_, exec_of_selectable hs rfl htarget hsel, ?_⟩
    rw [selected_mwr_of_ok_ioError hans']
    exact raise_visible_of_calls hready (bytesSent_visible ..) _
  | mch | msel => cases hd
  | crc5 | crcchk | fenc | fdec | frd | fwr | fupd => cases htarget

end

/-! ### The operations -/

theorem configFor_of_valid {c : Params} {addr : Byte} (h : mAddrValid c addr = true) :
    configFor c addr = some .config := if_pos h

theorem configFor_of_invalid {c : Params} {addr : Byte} (h : mAddrValid c addr = false) : configFor c addr = none :=
  if_neg (by simp [h])

/-- Settles O28: the operand refused, the selection failing as MSEL's own, and each end of the two exchanges. -/
theorem mrdFollowsItsRule : Obligations.MrdFollowsItsRule := by
  intro addr s hs
  refine ⟨fun haddr => exec_of_no_target (i := .mrd addr) hs rfl (configFor_of_invalid haddr), fun haddr => ?_⟩
  have htarget : targetMode s.cfg (.mrd addr) = some .config := configFor_of_valid haddr
  refine ⟨fun u f => exec_of_msel_fault rfl htarget rfl, fun hsel =>
    ⟨fun e rest => exec_of_firstExchange_ioError hs htarget rfl hsel,
      fun rx e rest => exec_of_secondExchange_ioError hs htarget rfl rfl hsel,
      fun rx rx' rest hans => ⟨_, exec_of_selectable hs rfl htarget hsel, ?_⟩⟩⟩
  rw [selected_mrd_of_ok_ok (s := (s.afterSelect .config).start) ((afterSelect_busAnswers ..).trans hans)]
  have ended := finish_visible_of_calls (afterSelect_ready hs.1 .config)
    ((setBuf0_visible _ rx'.b0).trans (bytesSent_visible _ addr addr rest)) (byteValue rx'.b0)
  exact ⟨ended, by simp [State.bytesSent]⟩

/-- Settles O29: as MRD, the second exchange sending the value and its answer ignored. -/
theorem mwrFollowsItsRule : Obligations.MwrFollowsItsRule := by
  intro addr value s hs
  refine ⟨fun haddr => exec_of_no_target (i := .mwr addr value) hs rfl (configFor_of_invalid haddr), fun haddr => ?_⟩
  have htarget : targetMode s.cfg (.mwr addr value) = some .config := configFor_of_valid haddr
  refine ⟨fun u f => exec_of_msel_fault rfl htarget rfl, fun hsel =>
    ⟨fun e rest => exec_of_firstExchange_ioError hs htarget rfl hsel,
      fun rx e rest => exec_of_secondExchange_ioError hs htarget rfl rfl hsel,
      fun rx rx' rest hans => ⟨_, exec_of_selectable hs rfl htarget hsel, ?_⟩⟩⟩
  rw [selected_mwr_of_ok_ok (s := (s.afterSelect .config).start) ((afterSelect_busAnswers ..).trans hans)]
  exact ⟨finish_visible_of_calls (afterSelect_ready hs.1 _) (bytesSent_visible ..) _, by simp [State.bytesSent]⟩

/-- Settles O30: the operand refused, the selection failing as MSEL's own, and both ends of the one exchange. -/
theorem mchFollowsItsRule : Obligations.MchFollowsItsRule := by
  intro code s hs
  refine ⟨fun hcode => exec_of_no_target (i := .mch code) hs rfl ((channelOf_eq_none_iff ..).2 hcode),
    fun m hcode hdata hstrap => ?_⟩
  have htarget : targetMode s.cfg (.mch code) = some m := (channelOf_eq_some_iff ..).2 ⟨hcode, hdata, hstrap⟩
  refine ⟨fun u f => exec_of_msel_fault rfl htarget hcode, fun hsel =>
    ⟨fun e rest => exec_of_firstExchange_ioError hs htarget rfl hsel, fun rx rest hans =>
      ⟨_, exec_of_selectable hs rfl htarget hsel, ?_⟩⟩⟩
  rw [selected_mch_of_ok (s := (s.afterSelect m).start) ((afterSelect_busAnswers s m).trans hans)]
  have ended := finish_visible_of_calls (afterSelect_ready hs.1 m)
    ((setBuf_visible _ { s.buf with b0 := rx.b0, b1 := rx.b1 }).trans (channelSent_visible _ rest))
    (channelValue rx.b0 rx.b1)
  rw [State.start_buf, afterSelect_buf]
  exact ⟨ended, by simp⟩

/-! ### Nothing is put back after a bus failure -/

/-- An operation with a target other than MSEL makes an exchange. -/
theorem exists_firstExchange {i : Instr} {s : State} {m : Mode} (htarget : targetMode s.cfg i = some m)
    (hi : ∀ code, i ≠ .msel code) : ∃ c, firstExchange s i = some c := by
  cases i with
  | mrd | mwr | mch => exact ⟨_, rfl⟩
  | msel code => exact absurd rfl (hi code)
  | crc5 | crcchk | fenc | fdec | frd | fwr | fupd => cases htarget

/-- Settles O32: what an operation does to cache and latches it does in the selection, and a bus failure after that ends
it with no more done. -/
theorem cacheAndPinsAreNeverRolledBack : Obligations.CacheAndPinsAreNeverRolledBack := by
  refine ⟨fun i s t h => ?_, fun i s t m e rest hs htarget hi hsel hans h => ?_⟩
  · have hcases := exec_selection_cases h
    simp only [State.selection, Prod.mk.injEq] at hcases
    rcases hcases with ⟨-, hcache, ha0, ha1⟩ | ⟨m, hm, ⟨-, hcache, ha0, ha1⟩ | ⟨-, hcache, ha0, ha1⟩⟩
    · exact ⟨.inl hcache, .inl ha0, .inl ha1⟩
    · exact ⟨.inl hcache, .inr ⟨m, hm, ha0⟩, .inl ha1⟩
    · exact ⟨.inr ⟨m, hm, hcache, ha0, ha1⟩, .inr ⟨m, hm, ha0⟩, .inr ⟨m, hm, ha1⟩⟩
  · obtain ⟨c, hc⟩ := exists_firstExchange htarget hi
    obtain ⟨t', h', hvis⟩ := exec_of_firstExchange_ioError hs htarget hc hsel hans
    cases h'.symm.trans h
    obtain ⟨-, -, hcache, ha0, ha1, -, -, -, hbus, -, -, hresults⟩ := (visible_eq_iff _ _).1 hvis
    exact ⟨by simpa using hresults, hbus, by simpa using hcache, ha0, ha1⟩

end Sys2Proof.Machine
end

section
/-! PROOFS. What an observer sees of the mode-pin unit (42_modepin.md R106): the calls of its operations, and that none
depends on `crc_en` or uses the CRC unit. -/

namespace Sys2Proof.Machine

open Sys2Proof

/-! ### Parts of an operation that use no CRC -/

/-- The state with another `crc_en` and other CRC working registers (10_state.md R10, R13). -/
def State.withCrc (s : State) (en : Bool) (u : CrcRegs) : State :=
  { s with crcEn := en, crcC := u.c, crcR := u.r, crcK := u.k }

/-- A part of an operation that does the same whatever `crc_en` and the CRC registers hold, which it leaves. -/
structure CrcFree (f : State → State) : Prop where
  withCrc : ∀ s en u, f (s.withCrc en u) = (f s).withCrc en u

namespace CrcFree

/-- The CRC registers are left as they are. -/
theorem crc_eq {f : State → State} (hf : CrcFree f) (s : State) :
    (f s).crcC = s.crcC ∧ (f s).crcR = s.crcR ∧ (f s).crcK = s.crcK := by
  have same : f s = (f s).withCrc s.crcEn ⟨s.crcC, s.crcR, s.crcK⟩ :=
    hf.withCrc s s.crcEn ⟨s.crcC, s.crcR, s.crcK⟩
  rw [same]
  exact ⟨rfl, rfl, rfl⟩

/-- One part after another. -/
theorem comp {f g : State → State} (hf : CrcFree f) (hg : CrcFree g) : CrcFree fun s => g (f s) where
  withCrc s en u := by rw [hf.withCrc, hg.withCrc]

/-- A wait for the bus and what follows an Ok answer. -/
theorem awaitBus {k : Trio → State → State} (p : SeqStep) (hk : ∀ rx, CrcFree (k rx)) :
    CrcFree fun s => s.awaitBus p k where
  withCrc s en u := by
    rcases awaitBus_cases s p k with ⟨ha, h⟩ | ⟨e, rest, ha, h⟩ | ⟨rx, rest, ha, h⟩ <;> rw [h]
    · exact awaitBus_nil (s := s.withCrc en u) ha p k
    · exact awaitBus_ioError (s := s.withCrc en u) ha p k
    · exact (awaitBus_ok (s := s.withCrc en u) ha p k).trans ((hk rx).withCrc (s.dropBus rest) en u)

/-- A wait for the pin primitive and what follows an Ok answer. -/
theorem awaitPin {k : State → State} (p : SeqStep) (hk : CrcFree k) : CrcFree fun s => s.awaitPin p k where
  withCrc s en u := by
    rcases awaitPin_cases s p k with ⟨ha, h⟩ | ⟨e, rest, ha, h⟩ | ⟨rest, ha, h⟩ <;> rw [h]
    · exact awaitPin_nil (s := s.withCrc en u) ha p k
    · exact awaitPin_pinError (s := s.withCrc en u) ha p k
    · exact (awaitPin_ok (s := s.withCrc en u) ha p k).trans (hk.withCrc (s.dropPin rest) en u)

theorem sendByte (b : Byte) : CrcFree fun s => s.sendByte b := ⟨fun _ _ _ => rfl⟩

/-- The exchanges that follow a selection, up to the end of the operation. -/
theorem selected (use : SelectUse) : CrcFree fun s => s.selected use := by
  cases use with
  | msel => exact ⟨fun _ _ _ => rfl⟩
  | mrd addr =>
    have second : CrcFree State.mrdSecondAnswered := awaitBus _ fun _ => ⟨fun _ _ _ => rfl⟩
    exact (sendByte addr).comp (awaitBus _ fun _ => (sendByte addr).comp second)
  | mwr addr value =>
    have second : CrcFree State.mwrValueAnswered := awaitBus _ fun _ => ⟨fun _ _ _ => rfl⟩
    exact (sendByte addr).comp (awaitBus _ fun _ => (sendByte value).comp second)
  | mch =>
    have zeros : CrcFree fun s => (s.setBuf { s.buf with b0 := 0, b1 := 0 }).issueXfer 2 := ⟨fun _ _ _ => rfl⟩
    have answered : CrcFree State.mchAnswered := awaitBus _ fun _ => ⟨fun _ _ _ => rfl⟩
    exact zeros.comp answered

/-- A mode selection and what follows it: the cache is read, and then written after the second pin. -/
theorem selectMode (m : Mode) (use : SelectUse) : CrcFree fun s => s.selectMode m use where
  withCrc s en u := by
    have cached : CrcFree fun s => ((s.setPinA1 (pinsOf s.cfg m).a1).setCache m).issue (.delay s.cfg.tModeSettle) :=
      ⟨fun _ _ _ => rfl⟩
    have second : CrcFree fun s => s.pinA1Answered m use := awaitPin _ (cached.comp (selected use))
    have between : CrcFree fun s => (s.setPinA0 (pinsOf s.cfg m).a0).issue (.pinSet .a1 (pinsOf s.cfg m).a1) :=
      ⟨fun _ _ _ => rfl⟩
    have first : CrcFree fun s => s.pinA0Answered m use := awaitPin _ (between.comp second)
    by_cases hhit : s.modeCache = some m
    case pos =>
      rw [selectMode_of_hit hhit, selectMode_of_hit (s := s.withCrc en u) hhit]
      exact (selected use).withCrc s en u
    case neg =>
      rw [selectMode_of_miss hhit, selectMode_of_miss (s := s.withCrc en u) hhit]
      exact first.withCrc (s.pinA0Called m s.pinAnswers) en u

theorem selectOrRefuse (named : Option Mode) (use : SelectUse) : CrcFree fun s => s.selectOrRefuse named use := by
  cases named with
  | none => exact ⟨fun _ _ _ => rfl⟩
  | some m => exact selectMode m use

end CrcFree

/-- An operation of the mode-pin unit does the same whatever `crc_en` is, and leaves the CRC registers. -/
theorem exec_crcFree {i : Instr} {s t : State} (hi : usesPins i = true) (h : exec i s = .next t) (b : Bool) :
    exec i { s with crcEn := b } = .next { t with crcEn := b } ∧
      t.crcC = s.crcC ∧ t.crcR = s.crcR ∧ t.crcK = s.crcK := by
  obtain ⟨use, huse⟩ := exists_selectUse_of_usesPins hi
  obtain ⟨hs, rfl⟩ := (exec_iff_of_selectUse huse s t).1 h
  have body := CrcFree.selectOrRefuse (targetMode s.cfg i) use
  obtain ⟨hc, hr, hk⟩ := body.crc_eq s.start
  refine ⟨(exec_iff_of_selectUse huse _ _).2 ⟨hs, ?_⟩, hc, hr, hk⟩
  generalize ht : s.start.selectOrRefuse (targetMode s.cfg i) use = t at hc hr hk ⊢
  calc { t with crcEn := b }
    _ = t.withCrc b ⟨s.start.crcC, s.start.crcR, s.start.crcK⟩ := by rw [← hc, ← hr, ← hk]; rfl
    _ = (s.start.withCrc b ⟨s.crcC, s.crcR, s.crcK⟩).selectOrRefuse (targetMode s.cfg i) use := by
      rw [body.withCrc, ht]
      rfl

/-! ### The calls -/

/-- What an operation that ended has delivered and called is part of what the rules of the transport fix. -/
theorem ended_of_visible_eq {s t : State} {rest : List BusAnswer} {m : Mode} {cs : List Call} {r : Result}
    (hs : s.PinReady)
    (h : t.visible = ((({ s.afterSelect m with busAnswers := rest }).withCalls cs).withResult r).visible) :
    t.busy = false ∧ t.results = s.results ++ [r] ∧ t.calls = s.calls ++ selectCalls s m ++ cs := by
  obtain ⟨-, -, -, -, -, hbusy, -, -, -, -, hcalls, hresults⟩ := (visible_eq_iff _ _).1 h
  exact ⟨by simpa [hs.1.1] using hbusy, by simpa using hresults, by simpa using hcalls⟩

/-- Settles O31: the calls are those of the selection and then those of the rules of MRD, MWR and MCH. -/
theorem modePinOperationsAsAnObserverSeesThem : Obligations.ModePinOperationsAsAnObserverSeesThem := by
  intro s hs
  refine ⟨fun code m hcode hsel => ?_, fun a rx rx' rest ha hsel hans => ?_, fun a v rx rx' rest ha hsel hans => ?_,
    fun code m rx rest hcode hsel hans => ?_, fun i t b hi h => exec_crcFree hi h b⟩
  · exact ⟨_, exec_of_selectable hs rfl hcode hsel, rfl, by simp [State.selected], by simp [State.selected]⟩
  · obtain ⟨-, -, selected⟩ := (mrdFollowsItsRule a s hs).imp_right (· ha)
    obtain ⟨-, -, done⟩ := selected hsel
    obtain ⟨t, h, hvis, -⟩ := done rx rx' rest hans
    exact ⟨t, h, ended_of_visible_eq hs hvis⟩
  · obtain ⟨-, -, selected⟩ := (mwrFollowsItsRule a v s hs).imp_right (· ha)
    obtain ⟨-, -, done⟩ := selected hsel
    obtain ⟨t, h, hvis, -⟩ := done rx rx' rest hans
    exact ⟨t, h, ended_of_visible_eq hs hvis⟩
  · obtain ⟨hmode, hdata, hstrap⟩ := (channelOf_eq_some_iff ..).1 hcode
    obtain ⟨-, rule⟩ := mchFollowsItsRule code s hs
    obtain ⟨-, selected⟩ := rule m hmode hdata hstrap
    obtain ⟨-, done⟩ := selected hsel
    obtain ⟨t, h, hvis, -⟩ := done rx rest hans
    exact ⟨t, h, ended_of_visible_eq hs hvis⟩

end Sys2Proof.Machine
end

section
/-! PROOFS. Accepting an operation (20_memory.md R39) and going on with one never stop the machine: a fault of an
operation is a result (60_exceptions.md R128). -/

namespace Sys2Proof.Machine

open Sys2Proof

/-- Every operation is its body, accepted under the conditions of its unit. -/
theorem exec_eq_accept (i : Instr) (s : State) :
    ∃ body, exec i s = if usesPins i then acceptPins s body else accept s body := by
  cases i with
  | crc5 | crcchk | fenc | fdec | frd | fwr | fupd | msel | mrd | mwr | mch => exact ⟨_, rfl⟩

theorem accept_ne_fault (s : State) (body : State → State) (f : Fault) : accept s body ≠ .fault f := by
  unfold accept
  split
  · nofun
  · split <;> nofun

theorem acceptPins_ne_fault (s : State) (body : State → State) (f : Fault) : acceptPins s body ≠ .fault f := by
  unfold acceptPins
  split
  · exact accept_ne_fault s body f
  · nofun

theorem exec_ne_fault (i : Instr) (s : State) (f : Fault) : exec i s ≠ .fault f := by
  obtain ⟨body, hexec⟩ := exec_eq_accept i s
  rw [hexec]
  split
  · exact acceptPins_ne_fault s body f
  · exact accept_ne_fault s body f

/-- An accepted operation answers a next state, whatever it is. -/
theorem exec_of_accepts {i : Instr} {s : State} (h : s.Accepts i) : ∃ t, exec i s = .next t := by
  obtain ⟨hready, hpins⟩ := h
  obtain ⟨body, hexec⟩ := exec_eq_accept i s
  refine ⟨body s.start, ?_⟩
  rw [hexec]
  split
  case isTrue huses => exact acceptPins_of_ready ⟨hready, hpins huses⟩ body
  case isFalse => exact accept_of_ready hready body

/-- An operation that answers a next state was accepted. -/
theorem ready_of_exec {i : Instr} {s t : State} (h : exec i s = .next t) : s.Ready := by
  obtain ⟨body, hexec⟩ := exec_eq_accept i s
  rw [hexec] at h
  split at h
  · exact ((acceptPins_eq_next_iff ..).1 h).1.1
  · exact ((accept_eq_next_iff ..).1 h).1

/-- Settles O45: a busy block stands at a waiting step, and an idle one runs an operation, rejects a word, or stays. -/
theorem invariantStatesNeverFault : Obligations.InvariantStatesNeverFault := by
  intro s f hs
  cases hbusy : s.busy with
  | true =>
    obtain ⟨t, ht⟩ := resume_next_of_waiting (hs.sequencer.1 hbusy)
    rw [step_busy hbusy, ht]
    nofun
  | false =>
    cases hcmds : s.cmds with
    | nil =>
      rw [step_of_no_command hbusy hcmds]
      nofun
    | cons w rest =>
      cases hw : decode w with
      | ok i =>
        rw [step_of_decode_ok hbusy hcmds hw]
        exact exec_ne_fault i _ f
      | error e =>
        rw [step_of_decode_error hbusy hcmds hw]
        exact accept_ne_fault _ _ f

end Sys2Proof.Machine
end

section
/-! PROOFS. Where an operation can stop (60_exceptions.md R120): at a call without an answer, at its end with one
result, or in a fault with its cause (R121 to R123). Every part of an operation keeps to this, and the statements about
faults follow from it. -/

namespace Sys2Proof.Machine

open Sys2Proof

/-! ### An operation on its way -/

/-- An operation taken up at `s` has come to `u`: it runs, has delivered nothing, and has taken none but Ok answers. -/
structure State.Reaches (s u : State) : Prop where
  cfg : u.cfg = s.cfg
  crcEn : u.crcEn = s.crcEn
  released : u.released = s.released
  busy : u.busy = true
  results : u.results = s.results
  bus : ∃ taken, s.busAnswers = taken ++ u.busAnswers ∧ ∀ a ∈ taken, ∃ rx, a = .ok rx
  pin : ∃ taken, s.pinAnswers = taken ++ u.pinAnswers ∧ ∀ a ∈ taken, a = .ok

/-- The operation `i`, taken up at `s`, raises the fault at `u`, having the cause the spec asks for. -/
inductive FaultsAt (i : Instr) (s : State) : State → OpFault → Prop
  /-- an operand cause, found before anything is done (60_exceptions.md R123, R127) -/
  | config (hcause : configCause s.cfg i = true) : FaultsAt i s s.start .config
  /-- a failed check, with integrity checking (60_exceptions.md R122) -/
  | integrity {u : State} (h : s.Reaches u) (hi : mayFailIntegrity i = true) (hcrc : s.crcEn = true) :
    FaultsAt i s u .integrity
  /-- an exchange answered by an error, the last answer taken (60_exceptions.md R121) -/
  | bus {u : State} {e : ErrToken} {rest : List BusAnswer} (h : s.Reaches u) (hi : mayFailIo i = true)
    (hans : u.busAnswers = .ioError e :: rest) : FaultsAt i s (u.dropBus rest) (.io e)
  /-- a pin write answered by an error, the last answer taken, before any exchange (60_exceptions.md R121) -/
  | pin {u : State} {e : ErrToken} {rest : List PinAnswer} (h : s.Reaches u) (hi : mayFailIo i = true)
    (hans : u.pinAnswers = .pinError e :: rest) (hbus : u.busAnswers = s.busAnswers) :
    FaultsAt i s (u.dropPin rest) (.io e)

/-- The states in which the operation `i`, taken up at `s`, can stop. -/
inductive StopsAt (i : Instr) (s : State) : State → Prop
  | waiting {u : State} {p : SeqStep} (h : s.Reaches u) (hp : p ≠ .first) : StopsAt i s (u.waitAt p)
  | finished {u : State} {v : Value} (h : s.Reaches u) : StopsAt i s (u.finish v)
  | faulted {u : State} {f : OpFault} (h : FaultsAt i s u f) : StopsAt i s (u.raise f)

/-- Where a fault is raised, nothing has been delivered yet, and what decides on accepting is as at the start. -/
theorem FaultsAt.unchanged {i : Instr} {s u : State} {f : OpFault} (h : FaultsAt i s u f) :
    u.results = s.results ∧ u.cfg = s.cfg ∧ u.released = s.released := by
  cases h with
  | config => exact ⟨rfl, rfl, rfl⟩
  | integrity h | bus h | pin h => exact ⟨h.results, h.cfg, h.released⟩

theorem reaches_start (s : State) : s.Reaches s.start :=
  { cfg := rfl, crcEn := rfl, released := rfl, busy := rfl, results := rfl
    bus := ⟨[], by simp⟩, pin := ⟨[], by simp⟩ }

namespace State.Reaches

variable {i : Instr} {s u : State}

/-! #### The updates keep it -/

theorem setBuf (h : s.Reaches u) (b : Trio) : s.Reaches (u.setBuf b) := { h with }
theorem setCrc (h : s.Reaches u) (regs : CrcRegs) : s.Reaches (u.setCrc regs) := { h with }
theorem setCache (h : s.Reaches u) (m : Mode) : s.Reaches (u.setCache m) := { h with }
theorem setPinA0 (h : s.Reaches u) (v : Bool) : s.Reaches (u.setPinA0 v) := { h with }
theorem setPinA1 (h : s.Reaches u) (v : Bool) : s.Reaches (u.setPinA1 v) := { h with }
theorem issue (h : s.Reaches u) (c : Call) : s.Reaches (u.issue c) := { h with }
theorem sendByte (h : s.Reaches u) (b : Byte) : s.Reaches (u.sendByte b) := { h with }

theorem dropBus {rx : Trio} {rest : List BusAnswer} (h : s.Reaches u) (hans : u.busAnswers = .ok rx :: rest) :
    s.Reaches (u.dropBus rest) := by
  obtain ⟨taken, hsplit, hok⟩ := h.bus
  refine { h with bus := ⟨taken ++ [.ok rx], by simp [hsplit, hans], fun a ha => ?_⟩ }
  rcases List.mem_append.1 ha with hold | hnew
  · exact hok a hold
  · exact ⟨rx, List.mem_singleton.1 hnew⟩

theorem dropPin {rest : List PinAnswer} (h : s.Reaches u) (hans : u.pinAnswers = .ok :: rest) :
    s.Reaches (u.dropPin rest) := by
  obtain ⟨taken, hsplit, hok⟩ := h.pin
  refine { h with pin := ⟨taken ++ [.ok], by simp [hsplit, hans], fun a ha => ?_⟩ }
  rcases List.mem_append.1 ha with hold | hnew
  · exact hok a hold
  · exact List.mem_singleton.1 hnew

/-! #### Awaiting an answer -/

theorem awaitBus (h : s.Reaches u) (hi : mayFailIo i = true) {p : SeqStep} (hp : p ≠ .first)
    {k : Trio → State → State} (hk : ∀ rx rest, s.Reaches (u.dropBus rest) → StopsAt i s (k rx (u.dropBus rest))) :
    StopsAt i s (u.awaitBus p k) := by
  rcases awaitBus_cases u p k with ⟨-, hu⟩ | ⟨e, rest, hans, hu⟩ | ⟨rx, rest, hans, hu⟩ <;> rw [hu]
  · exact .waiting h hp
  · exact .faulted (.bus h hi hans)
  · exact hk rx rest (h.dropBus hans)

/-- A pin write is awaited before any exchange (70_reset_and_hazards.md R145). -/
theorem awaitPin (h : s.Reaches u) (hbus : u.busAnswers = s.busAnswers) (hi : mayFailIo i = true) {p : SeqStep}
    (hp : p ≠ .first) {k : State → State} (hk : ∀ rest, s.Reaches (u.dropPin rest) → StopsAt i s (k (u.dropPin rest))) :
    StopsAt i s (u.awaitPin p k) := by
  rcases awaitPin_cases u p k with ⟨-, hu⟩ | ⟨e, rest, hans, hu⟩ | ⟨rest, hans, hu⟩ <;> rw [hu]
  · exact .waiting h hp
  · exact .faulted (.pin h hi hans hbus)
  · exact hk rest (h.dropPin hans)

/-! ### The framed register transport (41_frame.md) -/

/-- A register write of a valid address. -/
theorem writeRegister (h : s.Reaches u) (hi : mayFailIo i = true) {addr : Byte}
    (haddr : addrValid s.cfg addr = true) (value : Byte) (use : WriteUse) :
    StopsAt i s (u.writeRegister addr value use) := by
  rw [writeRegister_of_valid (h.cfg ▸ haddr)]
  have sent : s.Reaches (u.writeSent addr value) := ((h.setCrc _).setBuf _).issue _
  exact sent.awaitBus hi (by nofun) fun _ _ h => .finished h

theorem readDone (h : s.Reaches u) (hi : mayFailIo i = true) {addr : Byte}
    (haddr : addrValid s.cfg addr = true) (use : ReadUse) : StopsAt i s (u.readDone addr use) := by
  cases use with
  | frd => exact .finished h
  | fupd mask value => exact h.writeRegister hi haddr _ _

/-- Only a frame received with integrity checking is rejected (41_frame.md R82 step 4). -/
theorem readChecked (h : s.Reaches u) (hi : mayFailIo i = true) (hint : mayFailIntegrity i = true) {addr : Byte}
    (haddr : addrValid s.cfg addr = true) (use : ReadUse) : StopsAt i s (u.readChecked addr use) := by
  rw [readChecked_eq_ite]
  have checked : s.Reaches (u.runFrameCrc (responseHigh u.cfg addr u.buf.b0) u.buf.b1 u.buf.b2) := h.setCrc _
  split
  case isTrue => exact checked.readDone hi haddr use
  case isFalse hrejected =>
    have hcrc : u.crcEn = true := by
      simp only [readAccepted, Bool.or_eq_true, Bool.not_eq_true', not_or, Bool.not_eq_false] at hrejected
      exact hrejected.1
    exact .faulted (.integrity checked hint (h.crcEn ▸ hcrc))

/-- A register read of a valid address. -/
theorem readRegister (h : s.Reaches u) (hi : mayFailIo i = true) (hint : mayFailIntegrity i = true) {addr : Byte}
    (haddr : addrValid s.cfg addr = true) (use : ReadUse) : StopsAt i s (u.readRegister addr use) := by
  rw [readRegister_of_valid (h.cfg ▸ haddr)]
  have sent : s.Reaches (u.readSent addr) := (h.setBuf _).issue _
  exact sent.awaitBus hi (by nofun) fun _ _ h => (h.setBuf _).readChecked hi hint haddr use

/-! ### The mode-pin multiplexer (42_modepin.md) -/

theorem mrdFirstAnswered (h : s.Reaches u) (hi : mayFailIo i = true) (addr : Byte) :
    StopsAt i s (u.mrdFirstAnswered addr) := by
  refine h.awaitBus hi (by nofun) fun _ _ h => ?_
  exact (h.sendByte addr).awaitBus hi (by nofun) fun _ _ h => .finished (h.setBuf _)

theorem mwrAddrAnswered (h : s.Reaches u) (hi : mayFailIo i = true) (value : Byte) :
    StopsAt i s (u.mwrAddrAnswered value) := by
  refine h.awaitBus hi (by nofun) fun _ _ h => ?_
  exact (h.sendByte value).awaitBus hi (by nofun) fun _ _ h => .finished h

theorem mchAnswered (h : s.Reaches u) (hi : mayFailIo i = true) : StopsAt i s u.mchAnswered :=
  h.awaitBus hi (by nofun) fun _ _ h => .finished (h.setBuf _)

/-- What follows a selection: nothing, or the exchanges of MRD, MWR and MCH. -/
theorem selected (h : s.Reaches u) (hi : mayFailIo i = true) (use : SelectUse) : StopsAt i s (u.selected use) := by
  cases use with
  | msel => exact .finished h
  | mrd addr => exact (h.sendByte addr).mrdFirstAnswered hi addr
  | mwr addr value => exact (h.sendByte addr).mwrAddrAnswered hi value
  | mch => exact ((h.setBuf _).issue _).mchAnswered hi

/-- A selection that begins before any exchange. -/
theorem selectMode (h : s.Reaches u) (hbus : u.busAnswers = s.busAnswers) (hi : mayFailIo i = true) (m : Mode)
    (use : SelectUse) : StopsAt i s (u.selectMode m use) := by
  unfold State.selectMode
  split
  · exact h.selected hi use
  · refine (h.issue _).awaitPin hbus hi (by nofun) fun _ h => ?_
    refine ((h.setPinA0 _).issue _).awaitPin hbus hi (by nofun) fun _ h => ?_
    exact (((h.setPinA1 _).setCache m).issue _).selected hi use

end State.Reaches

/-! ### The operations -/

/-- The operands of a mode-pin operation have a cause of ConfigFault just where they name no mode to select. -/
theorem configCause_iff_of_selectUse {i : Instr} {use : SelectUse} (hi : selectUse i = some use) (c : Params) :
    configCause c i = true ↔ targetMode c i = none := by
  cases i with
  | msel mode => simp [configCause, targetMode, modeOfCode_eq_none_iff]
  | mrd addr | mwr addr value => simp [configCause, targetMode, configFor]
  | mch mode => simp [configCause, targetMode, channelOf_eq_none_iff, or_assoc]
  | crc5 | crcchk | fenc | fdec | frd | fwr | fupd => cases hi

/-- The operations of the mode-pin unit use the pins, which can fail (60_exceptions.md R125). -/
theorem mayFailIo_of_selectUse {i : Instr} {use : SelectUse} (hi : selectUse i = some use) : mayFailIo i = true := by
  cases i with
  | msel | mrd | mwr | mch => rfl
  | crc5 | crcchk | fenc | fdec | frd | fwr | fupd => cases hi

theorem selectOrRefuse_stopsAt {i : Instr} {use : SelectUse} (hi : selectUse i = some use) (s : State) :
    StopsAt i s (s.start.selectOrRefuse (targetMode s.cfg i) use) := by
  cases htarget : targetMode s.cfg i with
  | none => exact .faulted (.config ((configCause_iff_of_selectUse hi s.cfg).2 htarget))
  | some m => exact (reaches_start s).selectMode rfl (mayFailIo_of_selectUse hi) m use

/-- A register read, its address valid or not. -/
theorem readRegister_stopsAt {i : Instr} {s : State} {addr : Byte} (hi : mayFailIo i = true)
    (hint : mayFailIntegrity i = true) (hcause : configCause s.cfg i = !addrValid s.cfg addr) (use : ReadUse) :
    StopsAt i s (s.start.readRegister addr use) := by
  cases haddr : addrValid s.cfg addr with
  | true => exact (reaches_start s).readRegister hi hint haddr use
  | false =>
    rw [readRegister_of_invalid (s := s.start) haddr]
    exact .faulted (.config (by rw [hcause, haddr]; rfl))

/-- Every operation stops in one of the ways of 60_exceptions.md R120. -/
theorem exec_stopsAt {i : Instr} {s t : State} (ht : exec i s = .next t) : StopsAt i s t := by
  have h : s.Reaches s.start := reaches_start s
  have refuse (hcause : configCause s.cfg i = true) : StopsAt i s (s.start.raise .config) := .faulted (.config hcause)
  have select {use} (hi : selectUse i = some use) : StopsAt i s t := by
    obtain ⟨-, rfl⟩ := (exec_iff_of_selectUse hi s t).1 ht
    exact selectOrRefuse_stopsAt hi s
  cases i with
  | crc5 high mid low => obtain ⟨-, rfl⟩ := (exec_crc5_iff ..).1 ht; exact .finished (h.setCrc _)
  | crcchk high mid low => obtain ⟨-, rfl⟩ := (exec_crcchk_iff ..).1 ht; exact .finished (h.setCrc _)
  | fenc rw addr value =>
    obtain ⟨-, rfl⟩ := (exec_fenc_iff ..).1 ht
    split
    case isTrue =>
      split
      · exact .finished (h.setCrc _)
      · exact .finished h
    case isFalse haddr => exact refuse (by simpa [configCause] using haddr)
  | fdec b0 b1 b2 =>
    obtain ⟨-, rfl⟩ := (exec_fdec_iff ..).1 ht
    split
    case isTrue hcrc =>
      split
      · exact .finished (h.setCrc _)
      · exact .faulted (.integrity (h.setCrc _) rfl hcrc)
    case isFalse => exact .finished h
  | frd addr => obtain ⟨-, rfl⟩ := (exec_frd_iff ..).1 ht; exact readRegister_stopsAt rfl rfl rfl _
  | fwr addr value =>
    obtain ⟨-, rfl⟩ := (exec_fwr_iff ..).1 ht
    cases haddr : addrValid s.cfg addr with
    | true => exact h.writeRegister rfl haddr _ _
    | false => rw [writeRegister_of_invalid (s := s.start) haddr]; exact refuse (by simp [configCause, haddr])
  | fupd addr mask value => obtain ⟨-, rfl⟩ := (exec_fupd_iff ..).1 ht; exact readRegister_stopsAt rfl rfl rfl _
  | msel | mrd | mwr | mch => exact select rfl

/-- An accepted operation whose operands have a cause of ConfigFault ends in it at once (60_exceptions.md R127). -/
theorem exec_of_configCause {i : Instr} {s : State} (hs : s.Accepts i) (hcause : configCause s.cfg i = true) :
    exec i s = .next (s.start.raise .config) := by
  obtain ⟨hready, hpins⟩ := hs
  have refuse {use} (hi : selectUse i = some use) (huses : usesPins i = true) :
      exec i s = .next (s.start.raise .config) := by
    rw [exec_iff_of_selectUse hi, (configCause_iff_of_selectUse hi s.cfg).1 hcause]
    exact ⟨⟨hready, hpins huses⟩, rfl⟩
  have invalid {addr} (h : (!addrValid s.cfg addr) = true) : addrValid s.cfg addr = false := by simpa using h
  cases i with
  | fenc rw addr value => exact (exec_fenc_iff ..).2 ⟨hready, by simp [invalid hcause]⟩
  | frd addr =>
    exact (exec_frd_iff ..).2 ⟨hready, (readRegister_of_invalid (s := s.start) (invalid hcause) _).symm⟩
  | fwr addr value =>
    exact (exec_fwr_iff ..).2 ⟨hready, (writeRegister_of_invalid (s := s.start) (invalid hcause) _ _).symm⟩
  | fupd addr mask value =>
    exact (exec_fupd_iff ..).2 ⟨hready, (readRegister_of_invalid (s := s.start) (invalid hcause) _).symm⟩
  | msel | mrd | mwr | mch => exact refuse rfl rfl
  | crc5 | crcchk | fdec => cases hcause

/-- An operation that delivers a fault has raised it, with its cause, and has done nothing after. -/
theorem exec_fault {i : Instr} {s t : State} {f : OpFault} (ht : exec i s = .next t)
    (hf : t.results = s.results ++ [.fault f]) : ∃ u, FaultsAt i s u f ∧ t = u.raise f := by
  cases exec_stopsAt ht with
  | waiting h => simp [h.results] at hf
  | finished h => simp [h.results] at hf
  | @faulted u f' h =>
    obtain ⟨hresults, -, -⟩ := h.unchanged
    obtain rfl : f' = f := by simpa [hresults] using hf
    exact ⟨u, h, rfl⟩

/-! ### The statements -/

/-- Settles O10: an operation stops waiting, finished or in a fault. -/
theorem oneResultPerOperation : Obligations.OneResultPerOperation := by
  intro i s t ht
  cases exec_stopsAt ht with
  | waiting h hp => exact .inr ⟨h.busy, hp, h.results⟩
  | finished h => exact .inl ⟨rfl, _, by rw [State.finish_results, h.results]⟩
  | faulted h =>
    obtain ⟨hresults, -, -⟩ := h.unchanged
    exact .inl ⟨rfl, _, by rw [State.raise_results, hresults]⟩

/-- Settles O35: an operand cause is answered at once, and ConfigFault has no other cause. -/
theorem configFaultExactlyForItsCausesAndTouchesNothing :
    Obligations.ConfigFaultExactlyForItsCausesAndTouchesNothing := by
  intro i s hs
  refine ⟨⟨fun hcause => ⟨_, exec_of_configCause hs hcause, State.raise_results ..⟩, ?_⟩, fun t ht hf => ?_⟩
  · rintro ⟨t, ht, hf⟩
    obtain ⟨-, ⟨hcause⟩, -⟩ := exec_fault ht hf
    exact hcause
  · obtain ⟨-, ⟨-⟩, rfl⟩ := exec_fault ht hf
    exact raise_start_of_ready hs.1 .config

/-- Settles O36: each fault is raised with its cause, and ResourceFault is not raised. -/
theorem whichOperationCanEndInWhichFault : Obligations.WhichOperationCanEndInWhichFault := by
  intro i s t f ht hf
  obtain ⟨u, hu, -⟩ := exec_fault ht hf
  cases hu with
  | config hcause => exact hcause
  | integrity _ hi hcrc => exact ⟨hi, hcrc⟩
  | bus _ hi | pin _ hi => exact hi

/-- Settles O37: the failing answer is the last one taken, after none but Ok answers. -/
theorem ioFaultCarriesThePrimitivesToken : Obligations.IoFaultCarriesThePrimitivesToken := by
  intro i s t e ht hf
  obtain ⟨u, hu, rfl⟩ := exec_fault ht hf
  cases hu with
  | bus h _ hans =>
    obtain ⟨before, hsplit, hok⟩ := h.bus
    exact .inl ⟨before, hans ▸ hsplit, hok⟩
  | pin h _ hans hbus =>
    obtain ⟨before, hsplit, hok⟩ := h.pin
    exact .inr ⟨before, hans ▸ hsplit, hok, hbus⟩

/-- Settles O38: a fault frees the sequencer and leaves what decides on accepting an operation. -/
theorem afterAFaultTheBlockIsReady : Obligations.AfterAFaultTheBlockIsReady := by
  intro i j s t f ht hf
  obtain ⟨u, hu, rfl⟩ := exec_fault ht hf
  obtain ⟨-, hcfg, hreleased⟩ := hu.unchanged
  have hready : (u.raise f).Ready := ⟨rfl, hreleased.trans (ready_of_exec ht).2⟩
  refine ⟨hready, fun ⟨_, hpins⟩ => exec_of_accepts ⟨hready, fun huses => ?_⟩⟩
  rw [State.raise_cfg, hcfg]
  exact hpins huses

end Sys2Proof.Machine
end

section
/-! PROOFS. Construction, which is reset (10_state.md R20, 70_reset_and_hazards.md R140). -/

namespace Sys2Proof.Machine

open Sys2Proof

/-- Just constructed, a block is free, and needs its mode pins only for the mode-pin unit. -/
theorem construct_accepts {i : Instr} {cfg : Params} (hpins : usesPins i = true → cfg.modePinsPresent = true)
    (crcEn : Bool) : (State.construct cfg crcEn).Accepts i := ⟨⟨rfl, rfl⟩, hpins⟩

/-- Settles O7: the values are those construction writes, and a free block accepts any operation. -/
theorem constructionGivesTheResetState : Obligations.ConstructionGivesTheResetState := by
  intro cfg crcEn
  have hlen : (State.construct cfg crcEn).frameLen = 2 + crcEn.toNat := by cases crcEn <;> rfl
  exact ⟨rfl, hlen, rfl, rfl, rfl, fun i hpins => exec_of_accepts (construct_accepts hpins crcEn)⟩

/-- Of the invariant, construction leaves only the parameters to ask for: nothing runs, nothing is recorded. -/
theorem construct_inv {cfg : Params} (hcfg : cfg.wf = true) (crcEn : Bool) : (State.construct cfg crcEn).Inv where
  params := hcfg
  sequencer := by simp [State.construct]
  fits := rfl
  awaited := nofun
  exact := nofun
  noResource := nofun
  integrity := nofun

/-- The default parameters are ones the spec admits. -/
theorem default_wf : Params.default.wf = true := by decide

/-- Settles O43: reset is construction with the default parameters. -/
theorem invariantHoldsAtConstruction : Obligations.InvariantHoldsAtConstruction :=
  ⟨fun _ crcEn hcfg => construct_inv hcfg crcEn, construct_inv default_wf true⟩

end Sys2Proof.Machine
end

section
/-! PROOFS. The hazard of a selection that fails half way, and the recovery from it (70_reset_and_hazards.md R149). -/

namespace Sys2Proof.Machine

open Sys2Proof

/-- Whether a block accepts an operation of the mode-pin unit shows in the visible part of its state. -/
theorem pinReady_of_visible_eq {s t : State} (h : t.visible = s.visible) (hs : s.PinReady) : t.PinReady := by
  obtain ⟨hcfg, -, -, -, -, hbusy, hreleased, -⟩ := (visible_eq_iff t s).1 h
  exact ⟨⟨hbusy.trans hs.1.1, hreleased.trans hs.1.2⟩, hcfg ▸ hs.2⟩

/-- Settles O33: each selection ends as the rule of MSEL says, the second one in the state the first one left. -/
theorem pinFaultHazardAndItsRecovery : Obligations.PinFaultHazardAndItsRecovery := by
  refine ⟨fun s old new mo mn e rest hs hold hnew hne hcache hagrees hans => ?_,
    fun s other wanted mo mw rest hs hother hwanted hcache hne hans => ?_⟩
  · obtain ⟨-, -, missed⟩ := mselFollowsItsRule new s hs
    obtain ⟨-, secondFails, -⟩ := missed mn hnew (by simp [hcache, hne.symm])
    obtain ⟨t, ht, htvis⟩ := secondFails e rest hans
    obtain ⟨-, hit, -⟩ := mselFollowsItsRule old t (pinReady_of_visible_eq htvis hs)
    obtain ⟨-, -, htcache, hta0, hta1, -, -, -, -, -, -, htresults⟩ := (visible_eq_iff ..).1 htvis
    obtain ⟨u, hu, huvis, -⟩ := hit mo hold (htcache.trans hcache)
    obtain ⟨-, -, hucache, hua0, hua1, -, -, -, -, -, hucalls, huresults⟩ := (visible_eq_iff ..).1 huvis
    obtain ⟨-, ha1⟩ := hagrees mo hcache
    exact ⟨t, u, ht, hu, htresults, huresults, hucalls, hucache.trans (htcache.trans hcache), hua0.trans hta0,
      hua1.trans (hta1.trans ha1)⟩
  · obtain ⟨-, -, missed⟩ := mselFollowsItsRule other s hs
    obtain ⟨-, -, bothWritten⟩ := missed mo hother hcache
    obtain ⟨t, ht, htvis, -⟩ := bothWritten _ hans
    obtain ⟨-, -, missed'⟩ := mselFollowsItsRule wanted t (pinReady_of_visible_eq htvis hs)
    obtain ⟨htcfg, -, htcache, -, -, -, -, -, -, htans, htcalls, htresults⟩ := (visible_eq_iff ..).1 htvis
    have htmiss : t.modeCache ≠ some mw := by simpa [htcache] using hne.symm
    obtain ⟨-, -, bothWritten'⟩ := missed' mw hwanted htmiss
    obtain ⟨u, hu, huvis, -⟩ := bothWritten' rest htans
    obtain ⟨hucfg, -, hucache, hua0, hua1, -, -, -, -, -, hucalls, huresults⟩ := (visible_eq_iff ..).1 huvis
    have hagrees : u.agrees := by
      intro m hm
      obtain rfl : mw = m := Option.some.inj (hucache.symm.trans hm)
      rw [hucfg]
      exact ⟨hua0, hua1⟩
    refine ⟨t, u, ht, hu, ?_, hucache, hagrees, ?_⟩
    · simpa [htresults] using huresults
    · simpa [htcalls, htcfg] using hucalls

end Sys2Proof.Machine
end

section
/-! PROOFS. Waiting for a primitive and going on (70_reset_and_hazards.md R151, log 5): the parts of an operation are
resumed where they wait as if the answers had been there from their start. That no step changes `crc_en` or a parameter
(R141) is read off the same parts. -/

namespace Sys2Proof.Machine

open Sys2Proof

/-! ### Register accesses by the test of their address -/

/-- A register write, its address tested first (41_frame.md R83 step 1). -/
theorem writeRegister_eq_ite (s : State) (addr value : Byte) (use : WriteUse) :
    s.writeRegister addr value use =
      if addrValid s.cfg addr then (s.writeSent addr value).writeAnswered use else s.raise .config := by
  split
  case isTrue haddr => exact writeRegister_of_valid haddr value use
  case isFalse haddr => exact writeRegister_of_invalid (Bool.eq_false_iff.2 haddr) value use

/-- A register read, its address tested first (41_frame.md R82 step 1). -/
theorem readRegister_eq_ite (s : State) (addr : Byte) (use : ReadUse) :
    s.readRegister addr use =
      if addrValid s.cfg addr then (s.readSent addr).readAnswered addr use else s.raise .config := by
  split
  case isTrue haddr => exact readRegister_of_valid haddr use
  case isFalse haddr => exact readRegister_of_invalid (Bool.eq_false_iff.2 haddr) use

/-! ### Parts of an operation -/

/-- The state with more answers to come from the two primitives. -/
def State.withAnswers (s : State) (bus : List BusAnswer) (pin : List PinAnswer) : State :=
  { s with busAnswers := s.busAnswers ++ bus, pinAnswers := s.pinAnswers ++ pin }

@[simp] theorem withAnswers_nil (s : State) : s.withAnswers [] [] = s := by simp [State.withAnswers]

/-- The primitive the sequencer waits for has nothing more to answer. -/
def State.Unanswered (s : State) : Prop :=
  (s.seqStep.onBus = true → s.busAnswers = []) ∧ (s.seqStep.onPin = true → s.pinAnswers = [])

/-- `crc_en` and the parameters are the same in both states, as construction fixed them
(70_reset_and_hazards.md R141, 20_memory.md R44). -/
def State.SameConfig (s t : State) : Prop := t.crcEn = s.crcEn ∧ t.cfg = s.cfg

theorem State.SameConfig.trans {s t u : State} (h : s.SameConfig t) (h' : t.SameConfig u) : s.SameConfig u :=
  ⟨h'.1.trans h.1, h'.2.trans h.2⟩

/-- A part of an operation that awaits nothing: it neither reads nor writes what is still to be answered, nor the step
the sequencer stands at. -/
structure Quiet (g : State → State) : Prop where
  sameConfig : ∀ s : State, s.SameConfig (g s)
  waitAt : ∀ s p, g (s.waitAt p) = (g s).waitAt p
  withAnswers : ∀ s bus pin, g (s.withAnswers bus pin) = (g s).withAnswers bus pin

namespace Quiet

theorem sendByte (b : Byte) : Quiet fun s => s.sendByte b := ⟨fun _ => ⟨rfl, rfl⟩, fun _ _ => rfl, fun _ _ _ => rfl⟩

theorem setCrc (u : Params → CrcRegs) : Quiet fun s => s.setCrc (u s.cfg) :=
  ⟨fun _ => ⟨rfl, rfl⟩, fun _ _ => rfl, fun _ _ _ => rfl⟩

/-- A run of the CRC unit on bytes that may come from the parameters. -/
theorem runCrc (h m l : Params → Byte) : Quiet fun s => s.runCrc (h s.cfg) (m s.cfg) (l s.cfg) :=
  setCrc fun c => crcEvaluate (h c) (m c) (l c)

end Quiet

/-- A part of an operation up to its end: where it waits, the answers have run out, and with more of them the sequencer
goes on to what the part does with these answers at hand from its start. It does not read the step it is started at. -/
structure Resumable (f : State → State) : Prop where
  sameConfig : ∀ s : State, s.SameConfig (f s)
  waitAt : ∀ s p, f (s.waitAt p) = f s
  unanswered : ∀ s, (f s).busy = true → (f s).Unanswered
  resume : ∀ s bus pin, (f s).busy = true →
    resume ((f s).withAnswers bus pin) = .next (f (s.withAnswers bus pin))

namespace Resumable

/-- A part that always ends the operation. -/
theorem of_ended {f : State → State} (hsame : ∀ s : State, s.SameConfig (f s)) (hwait : ∀ s p, f (s.waitAt p) = f s)
    (hbusy : ∀ s, (f s).busy = false) : Resumable f where
  sameConfig := hsame
  waitAt := hwait
  unanswered s h := by simp [hbusy] at h
  resume s _ _ h := by simp [hbusy] at h

theorem raise (fault : OpFault) : Resumable fun s => s.raise fault :=
  of_ended (fun _ => ⟨rfl, rfl⟩) (fun _ _ => rfl) fun _ => rfl

/-- An end with a value that does not come from the step the sequencer stands at. -/
theorem finish {v : State → Value} (hv : ∀ s p, v (s.waitAt p) = v s) : Resumable fun s => s.finish (v s) :=
  of_ended (fun _ => ⟨rfl, rfl⟩) (fun s p => by rw [hv]; rfl) fun _ => rfl

/-- A part that awaits nothing, and what follows it. -/
theorem comp {f g : State → State} (hf : Resumable f) (hg : Quiet g) : Resumable fun s => f (g s) where
  sameConfig s := (hg.sameConfig s).trans (hf.sameConfig (g s))
  waitAt s p := by rw [hg.waitAt, hf.waitAt]
  unanswered s := hf.unanswered (g s)
  resume s bus pin h := by rw [hg.withAnswers]; exact hf.resume (g s) bus pin h

/-- One part or another, by a test that reads neither the answers to come nor the step. -/
theorem ite {c : State → Prop} [∀ s, Decidable (c s)] {f g : State → State} (hwait : ∀ s p, c (s.waitAt p) ↔ c s)
    (hans : ∀ s bus pin, c (s.withAnswers bus pin) ↔ c s) (hf : Resumable f) (hg : Resumable g) :
    Resumable fun s => if c s then f s else g s where
  sameConfig s := by
    split
    · exact hf.sameConfig s
    · exact hg.sameConfig s
  waitAt s p := by simp only [hwait, hf.waitAt, hg.waitAt]
  unanswered s := by
    split
    · exact hf.unanswered s
    · exact hg.unanswered s
  resume s bus pin := by
    simp only [hans]
    split
    · exact hf.resume s bus pin
    · exact hg.resume s bus pin

/-- A part that reads a parameter. -/
theorem of_cfg {f : Params → State → State} (hf : ∀ c, Resumable (f c)) : Resumable fun s => f s.cfg s :=
  ⟨fun s => (hf s.cfg).sameConfig s, fun s => (hf s.cfg).waitAt s, fun s => (hf s.cfg).unanswered s,
    fun s => (hf s.cfg).resume s⟩

/-- A wait for the bus does not read the step it is started at, if what follows an Ok answer does not. -/
theorem awaitBus_waitAt {p : SeqStep} {k : Trio → State → State} (hk : ∀ rx s q, k rx (s.waitAt q) = k rx s)
    (s : State) (q : SeqStep) : (s.waitAt q).awaitBus p k = s.awaitBus p k := by
  rcases awaitBus_cases s p k with ⟨hans, h⟩ | ⟨e, rest, hans, h⟩ | ⟨rx, rest, hans, h⟩ <;> rw [h]
  · exact awaitBus_nil (s := s.waitAt q) hans p k
  · exact awaitBus_ioError (s := s.waitAt q) hans p k
  · exact (awaitBus_ok (s := s.waitAt q) hans p k).trans (hk rx (s.dropBus rest) q)

/-- A wait for the bus at the step from which the sequencer goes on with it, and what follows an Ok answer. -/
theorem awaitBus {p : SeqStep} {k : Trio → State → State} (hp : p.onPin = false)
    (hresume : ∀ s : State, Machine.resume (s.waitAt p) = .next ((s.waitAt p).awaitBus p k))
    (hk : ∀ rx, Resumable (k rx)) : Resumable fun s => s.awaitBus p k where
  sameConfig s := by
    rcases awaitBus_cases s p k with ⟨-, h⟩ | ⟨e, rest, -, h⟩ | ⟨rx, rest, -, h⟩ <;> rw [h]
    · exact ⟨rfl, rfl⟩
    · exact ⟨rfl, rfl⟩
    · exact (hk rx).sameConfig (s.dropBus rest)
  waitAt := awaitBus_waitAt fun rx => (hk rx).waitAt
  unanswered s := by
    rcases awaitBus_cases s p k with ⟨hans, h⟩ | ⟨e, rest, -, h⟩ | ⟨rx, rest, -, h⟩ <;> rw [h]
    · exact fun _ => ⟨fun _ => hans, fun hpin => absurd hpin (by simp [hp])⟩
    · nofun
    · exact (hk rx).unanswered (s.dropBus rest)
  resume s bus pin := by
    rcases awaitBus_cases s p k with ⟨-, h⟩ | ⟨e, rest, -, h⟩ | ⟨rx, rest, hans, h⟩ <;> rw [h]
    · exact fun _ => (hresume (s.withAnswers bus pin)).trans
        (congrArg _ (awaitBus_waitAt (fun rx => (hk rx).waitAt) _ p))
    · nofun
    · have hmore : (s.withAnswers bus pin).busAnswers = .ok rx :: (rest ++ bus) := by simp [State.withAnswers, hans]
      rw [awaitBus_ok hmore]
      exact (hk rx).resume (s.dropBus rest) bus pin

/-- A wait for the pin primitive does not read the step it is started at, if what follows an Ok answer does not. -/
theorem awaitPin_waitAt {p : SeqStep} {k : State → State} (hk : ∀ s q, k (s.waitAt q) = k s)
    (s : State) (q : SeqStep) : (s.waitAt q).awaitPin p k = s.awaitPin p k := by
  rcases awaitPin_cases s p k with ⟨hans, h⟩ | ⟨e, rest, hans, h⟩ | ⟨rest, hans, h⟩ <;> rw [h]
  · exact awaitPin_nil (s := s.waitAt q) hans p k
  · exact awaitPin_pinError (s := s.waitAt q) hans p k
  · exact (awaitPin_ok (s := s.waitAt q) hans p k).trans (hk (s.dropPin rest) q)

/-- A wait for the pin primitive at the step from which the sequencer goes on with it, and what follows an Ok answer. -/
theorem awaitPin {p : SeqStep} {k : State → State} (hp : p.onBus = false)
    (hresume : ∀ s : State, Machine.resume (s.waitAt p) = .next ((s.waitAt p).awaitPin p k))
    (hk : Resumable k) : Resumable fun s => s.awaitPin p k where
  sameConfig s := by
    rcases awaitPin_cases s p k with ⟨-, h⟩ | ⟨e, rest, -, h⟩ | ⟨rest, -, h⟩ <;> rw [h]
    · exact ⟨rfl, rfl⟩
    · exact ⟨rfl, rfl⟩
    · exact hk.sameConfig (s.dropPin rest)
  waitAt := awaitPin_waitAt hk.waitAt
  unanswered s := by
    rcases awaitPin_cases s p k with ⟨hans, h⟩ | ⟨e, rest, -, h⟩ | ⟨rest, -, h⟩ <;> rw [h]
    · exact fun _ => ⟨fun hbus => absurd hbus (by simp [hp]), fun _ => hans⟩
    · nofun
    · exact hk.unanswered (s.dropPin rest)
  resume s bus pin := by
    rcases awaitPin_cases s p k with ⟨-, h⟩ | ⟨e, rest, -, h⟩ | ⟨rest, hans, h⟩ <;> rw [h]
    · exact fun _ => (hresume (s.withAnswers bus pin)).trans (congrArg _ (awaitPin_waitAt hk.waitAt _ p))
    · nofun
    · have hmore : (s.withAnswers bus pin).pinAnswers = .ok :: (rest ++ pin) := by simp [State.withAnswers, hans]
      rw [awaitPin_ok hmore]
      exact hk.resume (s.dropPin rest) bus pin

/-! ### The framed register transport (41_frame.md) -/

theorem writeAnswered (use : WriteUse) : Resumable fun s => s.writeAnswered use :=
  awaitBus rfl (fun _ => rfl) fun _ => finish fun _ _ => rfl

/-- A register write of a value that may come from the buffer. -/
theorem writeRegister (addr : Byte) (value : Trio → Byte) (use : WriteUse) :
    Resumable fun s => s.writeRegister addr (value s.buf) use := by
  simp only [writeRegister_eq_ite]
  have sent : Quiet fun s => s.writeSent addr (value s.buf) :=
    ⟨fun _ => ⟨rfl, rfl⟩, fun _ _ => rfl, fun _ _ _ => rfl⟩
  exact ite (fun _ _ => Iff.rfl) (fun _ _ _ => Iff.rfl) ((writeAnswered use).comp sent) (raise _)

theorem readDone (addr : Byte) (use : ReadUse) : Resumable fun s => s.readDone addr use := by
  cases use with
  | frd => exact finish (v := fun s => byteValue s.buf.b1) fun _ _ => rfl
  | fupd mask value => exact writeRegister addr (fun buf => updateByte buf.b1 mask value) .fupd

theorem readChecked (addr : Byte) (use : ReadUse) : Resumable fun s => s.readChecked addr use := by
  simp only [readChecked_eq_ite]
  have checked : Quiet fun s => s.runFrameCrc (responseHigh s.cfg addr s.buf.b0) s.buf.b1 s.buf.b2 :=
    ⟨fun _ => ⟨rfl, rfl⟩, fun _ _ => rfl, fun _ _ _ => rfl⟩
  exact ite (fun _ _ => Iff.rfl) (fun _ _ _ => Iff.rfl) ((readDone addr use).comp checked) ((raise _).comp checked)

theorem readAnswered (addr : Byte) (use : ReadUse) : Resumable fun s => s.readAnswered addr use :=
  awaitBus rfl (fun _ => rfl) fun rx =>
    have received : Quiet fun s => s.setBuf (receiveInto s.buf rx s.frameLen) :=
      ⟨fun _ => ⟨rfl, rfl⟩, fun _ _ => rfl, fun _ _ _ => rfl⟩
    (readChecked addr use).comp received

theorem readRegister (addr : Byte) (use : ReadUse) : Resumable fun s => s.readRegister addr use := by
  simp only [readRegister_eq_ite]
  have sent : Quiet fun s => s.readSent addr := ⟨fun _ => ⟨rfl, rfl⟩, fun _ _ => rfl, fun _ _ _ => rfl⟩
  exact ite (fun _ _ => Iff.rfl) (fun _ _ _ => Iff.rfl) ((readAnswered addr use).comp sent) (raise _)

/-! ### The mode-pin multiplexer (42_modepin.md) -/

theorem mrdSecondAnswered : Resumable State.mrdSecondAnswered :=
  awaitBus rfl (fun _ => rfl) fun _ => of_ended (fun _ => ⟨rfl, rfl⟩) (fun _ _ => rfl) fun _ => rfl

theorem mrdFirstAnswered (addr : Byte) : Resumable fun s => s.mrdFirstAnswered addr :=
  awaitBus rfl (fun _ => rfl) fun _ => mrdSecondAnswered.comp (.sendByte addr)

theorem mwrValueAnswered : Resumable State.mwrValueAnswered :=
  awaitBus rfl (fun _ => rfl) fun _ => finish fun _ _ => rfl

theorem mwrAddrAnswered (value : Byte) : Resumable fun s => s.mwrAddrAnswered value :=
  awaitBus rfl (fun _ => rfl) fun _ => mwrValueAnswered.comp (.sendByte value)

theorem mchAnswered : Resumable State.mchAnswered :=
  awaitBus rfl (fun _ => rfl) fun _ => of_ended (fun _ => ⟨rfl, rfl⟩) (fun _ _ => rfl) fun _ => rfl

theorem selected (use : SelectUse) : Resumable fun s => s.selected use := by
  cases use with
  | msel => exact finish fun _ _ => rfl
  | mrd addr => exact (mrdFirstAnswered addr).comp (.sendByte addr)
  | mwr addr value => exact (mwrAddrAnswered value).comp (.sendByte addr)
  | mch =>
    have zeros : Quiet fun s => (s.setBuf { s.buf with b0 := 0, b1 := 0 }).issueXfer 2 :=
      ⟨fun _ => ⟨rfl, rfl⟩, fun _ _ => rfl, fun _ _ _ => rfl⟩
    exact mchAnswered.comp zeros

theorem pinA1Answered (m : Mode) (use : SelectUse) : Resumable fun s => s.pinA1Answered m use := by
  have cached : Quiet fun s => ((s.setPinA1 (pinsOf s.cfg m).a1).setCache m).issue (.delay s.cfg.tModeSettle) :=
    ⟨fun _ => ⟨rfl, rfl⟩, fun _ _ => rfl, fun _ _ _ => rfl⟩
  exact awaitPin rfl (fun _ => rfl) ((selected use).comp cached)

theorem pinA0Answered (m : Mode) (use : SelectUse) : Resumable fun s => s.pinA0Answered m use := by
  have between : Quiet fun s => (s.setPinA0 (pinsOf s.cfg m).a0).issue (.pinSet .a1 (pinsOf s.cfg m).a1) :=
    ⟨fun _ => ⟨rfl, rfl⟩, fun _ _ => rfl, fun _ _ _ => rfl⟩
  exact awaitPin rfl (fun _ => rfl) ((pinA1Answered m use).comp between)

theorem selectMode (m : Mode) (use : SelectUse) : Resumable fun s => s.selectMode m use := by
  have called : Quiet fun s => s.issue (.pinSet .a0 (pinsOf s.cfg m).a0) :=
    ⟨fun _ => ⟨rfl, rfl⟩, fun _ _ => rfl, fun _ _ _ => rfl⟩
  exact ite (fun _ _ => Iff.rfl) (fun _ _ _ => Iff.rfl) (selected use) ((pinA0Answered m use).comp called)

/-- A selection of the mode the operand names under the parameters, or its refusal. -/
theorem selectOrRefuse (named : Params → Option Mode) (use : SelectUse) :
    Resumable fun s => s.selectOrRefuse (named s.cfg) use :=
  of_cfg (f := fun c s => s.selectOrRefuse (named c) use) fun c => by
    cases named c with
    | none => exact raise _
    | some m => exact selectMode m use

/-! ### The codec operations -/

theorem crc5 (h m l : Byte) : Resumable fun s => (s.runCrc h m l).finish (crcValue (s.runCrc h m l).crcOut) :=
  (finish (v := fun s => crcValue s.crcOut) fun _ _ => rfl).comp (.runCrc (fun _ => h) (fun _ => m) fun _ => l)

theorem crcchk (h m l : Byte) :
    Resumable fun s => (s.runCrc h m l).finish (crcValue (crcDifference (s.runCrc h m l).crcOut l)) :=
  (finish (v := fun s => crcValue (crcDifference s.crcOut l)) fun _ _ => rfl).comp
    (.runCrc (fun _ => h) (fun _ => m) fun _ => l)

theorem fenc (rw : Bool) (addr value : Byte) :
    Resumable fun s =>
      if addrValid s.cfg addr then
        if s.crcEn then
          (s.runCrc (ctrl s.cfg rw addr) value 0).finish
            (frameValue (ctrl s.cfg rw addr) value (crcByte (s.runCrc (ctrl s.cfg rw addr) value 0).crcOut))
        else s.finish (frameValue (ctrl s.cfg rw addr) value 0)
      else s.raise .config := by
  refine ite (fun _ _ => Iff.rfl) (fun _ _ _ => Iff.rfl) ?_ (raise _)
  refine ite (fun _ _ => Iff.rfl) (fun _ _ _ => Iff.rfl) ?_ ?_
  · exact (finish (v := fun s => frameValue (ctrl s.cfg rw addr) value (crcByte s.crcOut)) fun _ _ => rfl).comp
      (.runCrc (ctrl · rw addr) (fun _ => value) fun _ => 0)
  · exact finish (v := fun s => frameValue (ctrl s.cfg rw addr) value 0) fun _ _ => rfl

theorem fdec (b0 b1 b2 : Byte) :
    Resumable fun s =>
      if s.crcEn then
        if crcDifference (s.runCrc b0 b1 b2).crcOut b2 = 0 then (s.runCrc b0 b1 b2).finishDecode b0 b1
        else (s.runCrc b0 b1 b2).raise .integrity
      else s.finishDecode b0 b1 := by
  have ran := Quiet.runCrc (fun _ => b0) (fun _ => b1) fun _ => b2
  have decoded : Resumable fun s => s.finishDecode b0 b1 :=
    of_ended (fun _ => ⟨rfl, rfl⟩) (fun _ _ => rfl) fun _ => rfl
  exact ite (fun _ _ => Iff.rfl) (fun _ _ _ => Iff.rfl)
    (ite (fun _ _ => Iff.rfl) (fun _ _ _ => Iff.rfl) (decoded.comp ran) ((raise _).comp ran)) decoded

end Resumable

/-! ### Operations and steps -/

/-- Every operation is a resumable part, run from the started state of a block that accepts it. -/
theorem exec_resumable (i : Instr) :
    ∃ body, Resumable body ∧ ∀ s t, exec i s = .next t ↔ s.Accepts i ∧ t = body s.start := by
  have framed {body} (hi : usesPins i = false) (hbody : Resumable body) (hexec : ∀ s, exec i s = accept s body) :
      ∃ body, Resumable body ∧ ∀ s t, exec i s = .next t ↔ s.Accepts i ∧ t = body s.start :=
    ⟨body, hbody, fun s t => by simp [hexec, accept_eq_next_iff, State.Accepts, hi]⟩
  have pins {use} (hi : selectUse i = some use) (huses : usesPins i = true) :
      ∃ body, Resumable body ∧ ∀ s t, exec i s = .next t ↔ s.Accepts i ∧ t = body s.start :=
    ⟨_, .selectOrRefuse (targetMode · i) use, fun s t => by
      simp [exec_iff_of_selectUse hi, State.Accepts, State.PinReady, huses]⟩
  cases i with
  | crc5 h m l => exact framed rfl (.crc5 h m l) fun _ => rfl
  | crcchk h m l => exact framed rfl (.crcchk h m l) fun _ => rfl
  | fenc rw addr value => exact framed rfl (.fenc rw addr value) fun _ => rfl
  | fdec b0 b1 b2 => exact framed rfl (.fdec b0 b1 b2) fun _ => rfl
  | frd addr => exact framed rfl (.readRegister addr .frd) fun _ => rfl
  | fwr addr value => exact framed rfl (.writeRegister addr (fun _ => value) .fwr) fun _ => rfl
  | fupd addr mask value => exact framed rfl (.readRegister addr (.fupd mask value)) fun _ => rfl
  | msel | mrd | mwr | mch => exact pins rfl rfl

/-- Going on with a waiting operation is running one of its parts. -/
theorem resume_resumable {s t : State} (h : resume s = .next t) : ∃ part, Resumable part ∧ t = part s := by
  unfold resume at h
  cases hstep : s.seqStep <;> rw [hstep] at h <;> cases h
  case readXfer addr use => exact ⟨_, .readAnswered addr use, rfl⟩
  case writeXfer use => exact ⟨_, .writeAnswered use, rfl⟩
  case pinA0 m use => exact ⟨_, .pinA0Answered m use, rfl⟩
  case pinA1 m use => exact ⟨_, .pinA1Answered m use, rfl⟩
  case mrdFirst addr => exact ⟨_, .mrdFirstAnswered addr, rfl⟩
  case mrdSecond => exact ⟨_, .mrdSecondAnswered, rfl⟩
  case mwrAddr value => exact ⟨_, .mwrAddrAnswered value, rfl⟩
  case mwrValue => exact ⟨_, .mwrValueAnswered, rfl⟩
  case mchXfer => exact ⟨_, .mchAnswered, rfl⟩

theorem exec_sameConfig {i : Instr} {s t : State} (h : exec i s = .next t) : s.SameConfig t := by
  obtain ⟨body, hbody, hexec⟩ := exec_resumable i
  obtain ⟨-, rfl⟩ := (hexec s t).1 h
  exact hbody.sameConfig s.start

/-- An operation that waits has used up the answers it waits for. -/
theorem exec_unanswered {i : Instr} {s t : State} (h : exec i s = .next t) (hbusy : t.busy = true) : t.Unanswered := by
  obtain ⟨body, hbody, hexec⟩ := exec_resumable i
  obtain ⟨-, rfl⟩ := (hexec s t).1 h
  exact hbody.unanswered s.start hbusy

/-- An operation answered late goes on as if the answers had been there from its start. -/
theorem step_withAnswers_of_exec {i : Instr} {s t : State} (h : exec i s = .next t) (hbusy : t.busy = true)
    (bus : List BusAnswer) (pin : List PinAnswer) :
    step (t.withAnswers bus pin) = exec i (s.withAnswers bus pin) := by
  obtain ⟨body, hbody, hexec⟩ := exec_resumable i
  obtain ⟨hs, rfl⟩ := (hexec s t).1 h
  have again : exec i (s.withAnswers bus pin) = .next (body (s.start.withAnswers bus pin)) :=
    (hexec _ _).2 ⟨hs, rfl⟩
  rw [again]
  exact (step_busy (s := (body s.start).withAnswers bus pin) hbusy).trans (hbody.resume s.start bus pin hbusy)

/-- An operation that waits and is given no answer waits on. -/
theorem step_of_exec_busy {i : Instr} {s t : State} (h : exec i s = .next t) (hbusy : t.busy = true) :
    step t = .next t := by
  simpa [h] using step_withAnswers_of_exec h hbusy [] []

/-! ### The statements -/

/-- Settles O40: the bus has run out of answers where the operation waits for it, so those that come are just added. -/
theorem lateBusAnswersChangeNothing : Obligations.LateBusAnswersChangeNothing := by
  intro i s t more h hbusy hwait
  have hans : t.busAnswers = [] := (exec_unanswered h hbusy).1 hwait
  simpa [State.withAnswers, hans] using step_withAnswers_of_exec h hbusy more []

/-- Settles O41: the same of the pin primitive. -/
theorem latePinAnswersChangeNothing : Obligations.LatePinAnswersChangeNothing := by
  intro i s t more h hbusy hwait
  have hans : t.pinAnswers = [] := (exec_unanswered h hbusy).2 hwait
  simpa [State.withAnswers, hans] using step_withAnswers_of_exec h hbusy [] more

theorem step_sameConfig {s t : State} (h : step s = .next t) : s.SameConfig t := by
  cases hbusy : s.busy with
  | true =>
    obtain ⟨part, hpart, rfl⟩ := resume_resumable (step_busy hbusy ▸ h)
    exact hpart.sameConfig s
  | false =>
    cases hcmds : s.cmds with
    | nil =>
      rw [step_of_no_command hbusy hcmds] at h
      cases h
      exact ⟨rfl, rfl⟩
    | cons w rest =>
      cases hw : decode w with
      | ok i =>
        rw [step_of_decode_ok hbusy hcmds hw] at h
        exact (exec_sameConfig h :)
      | error e =>
        rw [step_of_decode_error hbusy hcmds hw] at h
        obtain ⟨-, rfl⟩ := (accept_eq_next_iff ..).1 h
        exact ⟨rfl, rfl⟩

/-- Settles O42: every part of an operation leaves `crc_en` and the parameters; the frame length follows `crc_en`. -/
theorem crcEnAndParametersNeverChange : Obligations.CrcEnAndParametersNeverChange := by
  intro s t h
  obtain ⟨hcrc, hcfg⟩ := step_sameConfig h
  exact ⟨hcrc, congrArg frameLen hcrc, hcfg⟩

end Sys2Proof.Machine
end

section
/-! PROOFS. An operation one of whose calls is never answered (70_reset_and_hazards.md R151): where it waits, for each
of its calls, and that it waits on. -/

namespace Sys2Proof.Machine

open Sys2Proof

/-! ### A pin write that is not answered -/

section
variable {i : Instr} {s : State} {m : Mode}

/-- An operation that selects a mode is of the mode-pin unit. -/
theorem exists_selectUse_of_target {c : Params} (htarget : targetMode c i = some m) :
    usesPins i = true ∧ ∃ use, selectUse i = some use := by
  have hpins : usesPins i = true := by
    cases i with
    | msel | mrd | mwr | mch => rfl
    | crc5 | crcchk | fenc | fdec | frd | fwr | fupd => cases htarget
  exact ⟨hpins, exists_selectUse_of_usesPins hpins⟩

/-- The first pin write of a selection has no answer. -/
theorem exec_of_unanswered_pinA0 (hs : s.Accepts i) (htarget : targetMode s.cfg i = some m)
    (hmiss : s.modeCache ≠ some m) (hans : s.pinAnswers = []) :
    ∃ t, exec i s = .next t ∧ t.seqStep.onPin = true ∧
      t.visible = (({ s with busy := true }).withCalls [.pinSet .a0 (pinsOf s.cfg m).a0]).visible := by
  obtain ⟨hpins, use, hi⟩ := exists_selectUse_of_target htarget
  refine ⟨_, exec_of_target ⟨hs.1, hs.2 hpins⟩ hi htarget, ?_⟩
  rw [selectMode_of_nil (s := s.start) hmiss hans]
  exact ⟨rfl, by simp [visible_eq_iff, State.pinA0Called, hans]⟩

/-- The second pin write of a selection has no answer. -/
theorem exec_of_unanswered_pinA1 (hs : s.Accepts i) (htarget : targetMode s.cfg i = some m)
    (hmiss : s.modeCache ≠ some m) (hans : s.pinAnswers = [.ok]) :
    ∃ t, exec i s = .next t ∧ t.seqStep.onPin = true ∧
      t.visible =
        (({ s with busy := true, pinAnswers := [], pinA0 := (pinsOf s.cfg m).a0 }).withCalls
          [.pinSet .a0 (pinsOf s.cfg m).a0, .pinSet .a1 (pinsOf s.cfg m).a1]).visible := by
  obtain ⟨hpins, use, hi⟩ := exists_selectUse_of_target htarget
  refine ⟨_, exec_of_target ⟨hs.1, hs.2 hpins⟩ hi htarget, ?_⟩
  rw [selectMode_of_ok_nil (s := s.start) hmiss hans]
  exact ⟨rfl, by simp [visible_eq_iff, State.pinA1Called]⟩

end

/-! ### Parts of an operation at an exchange that is not answered -/

/-- Where the bus has no answer, none is dropped. -/
theorem dropBus_nil {s : State} (h : s.busAnswers = []) : s.dropBus [] = s := by
  simp [State.dropBus, ← h]

section
variable {s : State} {rx : Trio} {addr : Byte}

theorem readRegister_of_nil (haddr : addrValid s.cfg addr = true) (hans : s.busAnswers = []) (use : ReadUse) :
    s.readRegister addr use = ((s.readSent addr).dropBus []).waitAt (.readXfer addr use) := by
  rw [readRegister_of_valid haddr, dropBus_nil (s := s.readSent addr) hans]
  exact awaitBus_nil (s := s.readSent addr) hans _ _

theorem writeRegister_of_nil (haddr : addrValid s.cfg addr = true) (hans : s.busAnswers = []) (value : Byte)
    (use : WriteUse) :
    s.writeRegister addr value use = ((s.writeSent addr value).dropBus []).waitAt (.writeXfer use) := by
  rw [writeRegister_of_valid haddr, dropBus_nil (s := s.writeSent addr value) hans]
  exact awaitBus_nil (s := s.writeSent addr value) hans _ _

theorem selected_mrd_of_nil (hans : s.busAnswers = []) (addr : Byte) :
    s.selected (.mrd addr) = (s.byteSent addr []).waitAt (.mrdFirst addr) := by
  rw [State.selected, State.byteSent, dropBus_nil (s := s.sendByte addr) hans]
  exact awaitBus_nil (s := s.sendByte addr) hans _ _

theorem selected_mrd_of_ok_nil (hans : s.busAnswers = [.ok rx]) (addr : Byte) :
    s.selected (.mrd addr) = (s.bytesSent addr addr []).waitAt .mrdSecond := by
  rw [selected_mrd_of_ok hans]
  exact awaitBus_nil (s := s.bytesSent addr addr []) rfl _ _

theorem selected_mwr_of_nil (hans : s.busAnswers = []) (addr value : Byte) :
    s.selected (.mwr addr value) = (s.byteSent addr []).waitAt (.mwrAddr value) := by
  rw [State.selected, State.byteSent, dropBus_nil (s := s.sendByte addr) hans]
  exact awaitBus_nil (s := s.sendByte addr) hans _ _

theorem selected_mwr_of_ok_nil (hans : s.busAnswers = [.ok rx]) (addr value : Byte) :
    s.selected (.mwr addr value) = (s.bytesSent addr value []).waitAt .mwrValue := by
  rw [selected_mwr_of_ok hans]
  exact awaitBus_nil (s := s.bytesSent addr value []) rfl _ _

theorem selected_mch_of_nil (hans : s.busAnswers = []) :
    s.selected .mch = (s.channelSent []).waitAt .mchXfer := by
  have hsent : s.channelSent [] = s.channelSent s.busAnswers := by rw [hans]
  rw [hsent, State.selected, State.mchSend]
  exact awaitBus_nil (s := s.channelSent s.busAnswers) hans _ _

end

/-! ### An exchange that is not answered -/

section
variable {i : Instr} {s : State}

/-- An accepted operation of the mode-pin unit, its operands valid and its selection ending Ok, comes to what follows
the selection, from the state in which it issues its first exchange. -/
theorem exec_of_selectsOk {use : SelectUse} (hs : s.Accepts i) (hpins : usesPins i = true)
    (hi : selectUse i = some use) (hcause : configCause s.cfg i = false) (hsel : s.selectsOk i) :
    exec i s = .next ((s.beforeExchange i).start.selected use) := by
  cases htarget : targetMode s.cfg i with
  | none => simp [(configCause_iff_of_selectUse hi s.cfg).2 htarget] at hcause
  | some m =>
    have hbefore : s.beforeExchange i = s.afterSelect m := by simp [State.beforeExchange, htarget]
    rw [hbefore]
    exact exec_of_selectable ⟨hs.1, hs.2 hpins⟩ hi htarget (hsel m htarget)

@[simp] theorem beforeExchange_busAnswers (s : State) (i : Instr) :
    (s.beforeExchange i).busAnswers = s.busAnswers := by
  unfold State.beforeExchange
  split
  · rfl
  · exact afterSelect_busAnswers s _

/-- The first exchange of an operation has no answer. -/
theorem exec_of_unanswered_firstExchange {c : Call} (hs : s.Accepts i) (hcause : configCause s.cfg i = false)
    (hc : firstExchange s i = some c) (hsel : s.selectsOk i) (hans : s.busAnswers = []) :
    ∃ t, exec i s = .next t ∧ t.seqStep.onBus = true ∧
      t.visible = (({ s.beforeExchange i with busy := true, busAnswers := [] }).withCalls [c]).visible := by
  have hans' : (s.beforeExchange i).start.busAnswers = [] := (beforeExchange_busAnswers s i).trans hans
  cases i with
  | frd addr =>
    cases hc
    refine ⟨_, (exec_frd_iff ..).2 ⟨hs.1, rfl⟩, ?_⟩
    rw [readRegister_of_nil (s := s.start) (by simpa [configCause] using hcause) hans]
    exact ⟨rfl, readSent_visible s addr []⟩
  | fwr addr value =>
    cases hc
    refine ⟨_, (exec_fwr_iff ..).2 ⟨hs.1, rfl⟩, ?_⟩
    rw [writeRegister_of_nil (s := s.start) (by simpa [configCause] using hcause) hans]
    exact ⟨rfl, writeSent_visible s addr value []⟩
  | fupd addr mask value =>
    cases hc
    refine ⟨_, (exec_fupd_iff ..).2 ⟨hs.1, rfl⟩, ?_⟩
    rw [readRegister_of_nil (s := s.start) (by simpa [configCause] using hcause) hans]
    exact ⟨rfl, readSent_visible s addr []⟩
  | mrd addr =>
    cases hc
    refine ⟨_, exec_of_selectsOk hs rfl rfl hcause hsel, ?_⟩
    rw [selected_mrd_of_nil hans']
    exact ⟨rfl, byteSent_visible _ addr []⟩
  | mwr addr value =>
    cases hc
    refine ⟨_, exec_of_selectsOk hs rfl rfl hcause hsel, ?_⟩
    rw [selected_mwr_of_nil hans']
    exact ⟨rfl, byteSent_visible _ addr []⟩
  | mch mode =>
    cases hc
    refine ⟨_, exec_of_selectsOk hs rfl rfl hcause hsel, ?_⟩
    rw [selected_mch_of_nil hans']
    exact ⟨rfl, channelSent_visible _ []⟩
  | msel | crc5 | crcchk | fenc | fdec => cases hc

/-- The second exchange of an operation has no answer. -/
theorem exec_of_unanswered_secondExchange {rx : Trio} {c d : Call} (hs : s.Accepts i)
    (hcause : configCause s.cfg i = false) (hc : firstExchange s i = some c) (hd : secondExchange s rx i = some d)
    (hsel : s.selectsOk i) (hans : s.busAnswers = [.ok rx]) :
    ∃ t, exec i s = .next t ∧ t.seqStep.onBus = true ∧
      t.visible = (({ s.beforeExchange i with busy := true, busAnswers := [] }).withCalls [c, d]).visible := by
  have hans' : (s.beforeExchange i).start.busAnswers = [.ok rx] := (beforeExchange_busAnswers s i).trans hans
  cases i with
  | fupd addr mask value =>
    have haddr : addrValid s.cfg addr = true := by simpa [configCause] using hcause
    obtain ⟨hrx, rfl⟩ : readAccepted s addr rx = true ∧ writeCall s addr (updateByte rx.b1 mask value) = d := by
      simpa [secondExchange] using hd
    cases hc
    refine ⟨_, (exec_fupd_iff ..).2 ⟨hs.1, rfl⟩, ?_⟩
    rw [readRegister_of_accepted (s := s.start) haddr hans hrx, State.readDone,
      writeRegister_of_nil (s := s.start.readReceived addr rx []) haddr rfl]
    exact ⟨rfl, writeSent_readReceived_visible s addr _ rx [] []⟩
  | mrd addr =>
    cases hc
    cases hd
    refine ⟨_, exec_of_selectsOk hs rfl rfl hcause hsel, ?_⟩
    rw [selected_mrd_of_ok_nil hans']
    exact ⟨rfl, bytesSent_visible _ addr addr []⟩
  | mwr addr value =>
    cases hc
    cases hd
    refine ⟨_, exec_of_selectsOk hs rfl rfl hcause hsel, ?_⟩
    rw [selected_mwr_of_ok_nil hans']
    exact ⟨rfl, bytesSent_visible _ addr value []⟩
  | frd | fwr | mch => cases hd
  | msel | crc5 | crcchk | fenc | fdec => cases hc

end

/-! ### Waiting on -/

/-- A state that a step leaves as it is, any number of steps leaves. -/
theorem run_of_step_eq {M : Host.Core} {s : M.State} (h : M.step s = .next s) (k : Nat) : M.run k s = .next s := by
  induction k with
  | zero => rfl
  | succ k ih =>
    rw [Host.Core.run, h]
    exact ih

/-- Settles O39: the operation waits at the call without an answer, and there each step leaves it as it is. -/
theorem anOperationNeverAnsweredStaysBusy : Obligations.AnOperationNeverAnsweredStaysBusy := by
  refine ⟨fun i s hs hcause => ⟨fun m => exec_of_unanswered_pinA0 hs, fun m => exec_of_unanswered_pinA1 hs,
    fun c hc hsel hans => ?_, fun rx c d => exec_of_unanswered_secondExchange hs hcause⟩,
    fun i s t h hbusy => run_of_step_eq (M := Sys2Proof.core) (step_of_exec_busy h hbusy)⟩
  have hnone : (s.beforeExchange i).busAnswers = [] := (beforeExchange_busAnswers s i).trans hans
  simpa only [← hnone] using exec_of_unanswered_firstExchange hs hcause hc hsel hans

end Sys2Proof.Machine
end

section
/-! PROOFS. Which operations are refused (93_implementation_defined.md U1, U8): exactly those the block does not accept,
since `exec` never faults and answers a next state for an accepted operation alone. -/

namespace Sys2Proof.Machine

open Sys2Proof

theorem exists_exec_next_iff_accepts (i : Instr) (s : State) : (∃ t, exec i s = .next t) ↔ s.Accepts i := by
  refine ⟨fun ⟨t, ht⟩ => ?_, exec_of_accepts⟩
  obtain ⟨body, -, hexec⟩ := exec_resumable i
  exact ((hexec s t).1 ht).1

theorem exists_exec_refused_iff_not_accepts (i : Instr) (s : State) :
    (∃ r, exec i s = .refused r) ↔ ¬ s.Accepts i := by
  rw [← exists_exec_next_iff_accepts]
  cases h : exec i s with
  | next t => simp
  | fault f => exact absurd h (exec_ne_fault i s f)
  | refused r => simp

/-- What stands outside the contract, condition by condition (log 21 to 23). -/
theorem not_accepts_iff (i : Instr) (s : State) :
    ¬ s.Accepts i ↔
      s.released = true ∨ s.busy = true ∨ (usesPins i = true ∧ s.cfg.modePinsPresent = false) := by
  rw [not_and_or, not_and_or, Classical.not_imp, Bool.not_eq_false, Bool.not_eq_false, Bool.not_eq_true, or_assoc,
    or_left_comm]

/-- Settles O9: an operation is refused exactly when it is not accepted. -/
theorem operationsAreRefusedOnlyOutsideTheContract : Obligations.OperationsAreRefusedOnlyOutsideTheContract :=
  fun i s => (exists_exec_refused_iff_not_accepts i s).trans (not_accepts_iff i s)

end Sys2Proof.Machine
end
